-- ==== Sys2Proof/Word.lean ====
section
/-! DEFINITION. The word sizes of R8 and the register names of R20 to R22 and R104. -/

namespace Sys2Proof

/-- A byte: 8 bits (R8). -/
abbrev Byte := BitVec 8

/-- A word: 16 bits (R8). -/
abbrev Half := BitVec 16

/-- A longword: 32 bits (R8). -/
abbrev Long := BitVec 32

/-- The number n of a general register ERn (R20). -/
abbrev RegNum := Fin 8

/-- A bit number 0 to 7 inside a byte (R701). -/
abbrev BitNum := Fin 8

/-- The sixteen 8-bit registers (R21): `h n` is RnH, `l n` is RnL. -/
inductive Reg8 where
  | h (n : RegNum)
  | l (n : RegNum)
deriving DecidableEq, Repr

/-- The sixteen 16-bit registers (R21): `r n` is Rn, `e n` is En. -/
inductive Reg16 where
  | r (n : RegNum)
  | e (n : RegNum)
deriving DecidableEq, Repr

end Sys2Proof
end

