-- ==== Sys2Proof/Syntax.lean ====
section
/-! DEFINITION. The instructions: one constructor per row of spec/opcode_table.json, in the table's order. Field names are the
manual's: `rs`, `rd`, `ers`, `erd`, `rn`, `ern`, `erm` registers, `imm` immediate data, `disp` a displacement, `abs` an
absolute address, `n` a bit number. For LDM, `rn` is the highest register of the list; for STM, the lowest (R189, R190). -/

namespace Sys2Proof

/-- An instruction of the H8S/2600 and H8S/2000 CPU (R120). -/
inductive Instr where
  /-- MOV.B Rs,Rd (R141) -/
  | movBRsRd (rs : Reg8) (rd : Reg8)
  /-- MOV.W Rs,Rd (R142) -/
  | movWRsRd (rs : Reg16) (rd : Reg16)
  /-- MOV.L ERs,ERd (R143) -/
  | movLERsERd (ers : RegNum) (erd : RegNum)
  /-- MOV.B #xx:8,Rd (R144) -/
  | movBImm8Rd (imm : BitVec 8) (rd : Reg8)
  /-- MOV.W #xx:16,Rd (R145) -/
  | movWImm16Rd (imm : BitVec 16) (rd : Reg16)
  /-- MOV.L #xx:32,ERd (R146) -/
  | movLImm32ERd (imm : BitVec 32) (erd : RegNum)
  /-- MOV.B @ERs,Rd (R147) -/
  | movBAtERsRd (ers : RegNum) (rd : Reg8)
  /-- MOV.B @(d:16,ERs),Rd (R148) -/
  | movBD16ERsRd (ers : RegNum) (disp : BitVec 16) (rd : Reg8)
  /-- MOV.B @(d:32,ERs),Rd (R149) -/
  | movBD32ERsRd (ers : RegNum) (disp : BitVec 32) (rd : Reg8)
  /-- MOV.B @ERs+,Rd (R150) -/
  | movBERsIncRd (ers : RegNum) (rd : Reg8)
  /-- MOV.B @aa:8,Rd (R151) -/
  | movBAa8Rd (abs : BitVec 8) (rd : Reg8)
  /-- MOV.B @aa:16,Rd (R152) -/
  | movBAa16Rd (abs : BitVec 16) (rd : Reg8)
  /-- MOV.B @aa:32,Rd (R153) -/
  | movBAa32Rd (abs : BitVec 32) (rd : Reg8)
  /-- MOV.W @ERs,Rd (R154) -/
  | movWAtERsRd (ers : RegNum) (rd : Reg16)
  /-- MOV.W @(d:16,ERs),Rd (R155) -/
  | movWD16ERsRd (ers : RegNum) (disp : BitVec 16) (rd : Reg16)
  /-- MOV.W @(d:32,ERs),Rd (R156) -/
  | movWD32ERsRd (ers : RegNum) (disp : BitVec 32) (rd : Reg16)
  /-- MOV.W @ERs+,Rd (R157) -/
  | movWERsIncRd (ers : RegNum) (rd : Reg16)
  /-- MOV.W @aa:16,Rd (R158) -/
  | movWAa16Rd (abs : BitVec 16) (rd : Reg16)
  /-- MOV.W @aa:32,Rd (R159) -/
  | movWAa32Rd (abs : BitVec 32) (rd : Reg16)
  /-- MOV.L @ERs,ERd (R160) -/
  | movLAtERsERd (ers : RegNum) (erd : RegNum)
  /-- MOV.L @(d:16,ERs),ERd (R161) -/
  | movLD16ERsERd (ers : RegNum) (disp : BitVec 16) (erd : RegNum)
  /-- MOV.L @(d:32,ERs),ERd (R162) -/
  | movLD32ERsERd (ers : RegNum) (disp : BitVec 32) (erd : RegNum)
  /-- MOV.L @ERs+,ERd (R163) -/
  | movLERsIncERd (ers : RegNum) (erd : RegNum)
  /-- MOV.L @aa:16,ERd (R164) -/
  | movLAa16ERd (abs : BitVec 16) (erd : RegNum)
  /-- MOV.L @aa:32,ERd (R165) -/
  | movLAa32ERd (abs : BitVec 32) (erd : RegNum)
  /-- MOV.B Rs,@ERd (R166) -/
  | movBRsAtERd (rs : Reg8) (erd : RegNum)
  /-- MOV.B Rs,@(d:16,ERd) (R167) -/
  | movBRsD16ERd (rs : Reg8) (erd : RegNum) (disp : BitVec 16)
  /-- MOV.B Rs,@(d:32,ERd) (R168) -/
  | movBRsD32ERd (rs : Reg8) (erd : RegNum) (disp : BitVec 32)
  /-- MOV.B Rs,@-ERd (R169) -/
  | movBRsDecERd (rs : Reg8) (erd : RegNum)
  /-- MOV.B Rs,@aa:8 (R170) -/
  | movBRsAa8 (rs : Reg8) (abs : BitVec 8)
  /-- MOV.B Rs,@aa:16 (R171) -/
  | movBRsAa16 (rs : Reg8) (abs : BitVec 16)
  /-- MOV.B Rs,@aa:32 (R172) -/
  | movBRsAa32 (rs : Reg8) (abs : BitVec 32)
  /-- MOV.W Rs,@ERd (R173) -/
  | movWRsAtERd (rs : Reg16) (erd : RegNum)
  /-- MOV.W Rs,@(d:16,ERd) (R174) -/
  | movWRsD16ERd (rs : Reg16) (erd : RegNum) (disp : BitVec 16)
  /-- MOV.W Rs,@(d:32,ERd) (R175) -/
  | movWRsD32ERd (rs : Reg16) (erd : RegNum) (disp : BitVec 32)
  /-- MOV.W Rs,@-ERd (R176) -/
  | movWRsDecERd (rs : Reg16) (erd : RegNum)
  /-- MOV.W Rs,@aa:16 (R177) -/
  | movWRsAa16 (rs : Reg16) (abs : BitVec 16)
  /-- MOV.W Rs,@aa:32 (R178) -/
  | movWRsAa32 (rs : Reg16) (abs : BitVec 32)
  /-- MOV.L ERs,@ERd (R179) -/
  | movLERsAtERd (ers : RegNum) (erd : RegNum)
  /-- MOV.L ERs,@(d:16,ERd) (R180) -/
  | movLERsD16ERd (ers : RegNum) (erd : RegNum) (disp : BitVec 16)
  /-- MOV.L ERs,@(d:32,ERd) (R181) -/
  | movLERsD32ERd (ers : RegNum) (erd : RegNum) (disp : BitVec 32)
  /-- MOV.L ERs,@-ERd (R182) -/
  | movLERsDecERd (ers : RegNum) (erd : RegNum)
  /-- MOV.L ERs,@aa:16 (R183) -/
  | movLERsAa16 (ers : RegNum) (abs : BitVec 16)
  /-- MOV.L ERs,@aa:32 (R184) -/
  | movLERsAa32 (ers : RegNum) (abs : BitVec 32)
  /-- POP.W Rn (R185) -/
  | popWRn (rn : Reg16)
  /-- POP.L ERn (R186) -/
  | popLERn (ern : RegNum)
  /-- PUSH.W Rn (R187) -/
  | pushWRn (rn : Reg16)
  /-- PUSH.L ERn (R188) -/
  | pushLERn (ern : RegNum)
  /-- LDM.L @SP+,(ERn-ERn+1) (R189) -/
  | ldmL2 (rn : RegNum)
  /-- LDM.L @SP+,(ERn-ERn+2) (R189) -/
  | ldmL3 (rn : RegNum)
  /-- LDM.L @SP+,(ERn-ERn+3) (R189) -/
  | ldmL4 (rn : RegNum)
  /-- STM.L (ERn-ERn+1),@-SP (R190) -/
  | stmL2 (rn : RegNum)
  /-- STM.L (ERn-ERn+2),@-SP (R190) -/
  | stmL3 (rn : RegNum)
  /-- STM.L (ERn-ERn+3),@-SP (R190) -/
  | stmL4 (rn : RegNum)
  /-- MOVFPE @aa:16,Rd (R191) -/
  | movfpeAa16Rd (abs : BitVec 16) (rd : Reg8)
  /-- MOVTPE Rs,@aa:16 (R192) -/
  | movtpeRsAa16 (rs : Reg8) (abs : BitVec 16)
  /-- ADD.B #xx:8,Rd (R203) -/
  | addBImm8Rd (imm : BitVec 8) (rd : Reg8)
  /-- ADD.B Rs,Rd (R204) -/
  | addBRsRd (rs : Reg8) (rd : Reg8)
  /-- ADD.W #xx:16,Rd (R205) -/
  | addWImm16Rd (imm : BitVec 16) (rd : Reg16)
  /-- ADD.W Rs,Rd (R206) -/
  | addWRsRd (rs : Reg16) (rd : Reg16)
  /-- ADD.L #xx:32,ERd (R207) -/
  | addLImm32ERd (imm : BitVec 32) (erd : RegNum)
  /-- ADD.L ERs,ERd (R208) -/
  | addLERsERd (ers : RegNum) (erd : RegNum)
  /-- ADDS #1,ERd (R209) -/
  | addsBy1ERd (erd : RegNum)
  /-- ADDS #2,ERd (R210) -/
  | addsBy2ERd (erd : RegNum)
  /-- ADDS #4,ERd (R211) -/
  | addsBy4ERd (erd : RegNum)
  /-- ADDX #xx:8,Rd (R212) -/
  | addxImm8Rd (imm : BitVec 8) (rd : Reg8)
  /-- ADDX Rs,Rd (R213) -/
  | addxRsRd (rs : Reg8) (rd : Reg8)
  /-- SUB.B Rs,Rd (R214) -/
  | subBRsRd (rs : Reg8) (rd : Reg8)
  /-- SUB.W #xx:16,Rd (R215) -/
  | subWImm16Rd (imm : BitVec 16) (rd : Reg16)
  /-- SUB.W Rs,Rd (R216) -/
  | subWRsRd (rs : Reg16) (rd : Reg16)
  /-- SUB.L #xx:32,ERd (R217) -/
  | subLImm32ERd (imm : BitVec 32) (erd : RegNum)
  /-- SUB.L ERs,ERd (R218) -/
  | subLERsERd (ers : RegNum) (erd : RegNum)
  /-- SUBS #1,ERd (R219) -/
  | subsBy1ERd (erd : RegNum)
  /-- SUBS #2,ERd (R220) -/
  | subsBy2ERd (erd : RegNum)
  /-- SUBS #4,ERd (R221) -/
  | subsBy4ERd (erd : RegNum)
  /-- SUBX #xx:8,Rd (R222) -/
  | subxImm8Rd (imm : BitVec 8) (rd : Reg8)
  /-- SUBX Rs,Rd (R223) -/
  | subxRsRd (rs : Reg8) (rd : Reg8)
  /-- CMP.B #xx:8,Rd (R224) -/
  | cmpBImm8Rd (imm : BitVec 8) (rd : Reg8)
  /-- CMP.B Rs,Rd (R225) -/
  | cmpBRsRd (rs : Reg8) (rd : Reg8)
  /-- CMP.W #xx:16,Rd (R226) -/
  | cmpWImm16Rd (imm : BitVec 16) (rd : Reg16)
  /-- CMP.W Rs,Rd (R227) -/
  | cmpWRsRd (rs : Reg16) (rd : Reg16)
  /-- CMP.L #xx:32,ERd (R228) -/
  | cmpLImm32ERd (imm : BitVec 32) (erd : RegNum)
  /-- CMP.L ERs,ERd (R229) -/
  | cmpLERsERd (ers : RegNum) (erd : RegNum)
  /-- INC.B Rd (R230) -/
  | incBRd (rd : Reg8)
  /-- INC.W #1,Rd (R231) -/
  | incWBy1Rd (rd : Reg16)
  /-- INC.W #2,Rd (R232) -/
  | incWBy2Rd (rd : Reg16)
  /-- INC.L #1,ERd (R236) -/
  | incLBy1ERd (erd : RegNum)
  /-- INC.L #2,ERd (R237) -/
  | incLBy2ERd (erd : RegNum)
  /-- DEC.B Rd (R238) -/
  | decBRd (rd : Reg8)
  /-- DEC.W #1,Rd (R239) -/
  | decWBy1Rd (rd : Reg16)
  /-- DEC.W #2,Rd (R240) -/
  | decWBy2Rd (rd : Reg16)
  /-- DEC.L #1,ERd (R241) -/
  | decLBy1ERd (erd : RegNum)
  /-- DEC.L #2,ERd (R242) -/
  | decLBy2ERd (erd : RegNum)
  /-- NEG.B Rd (R243) -/
  | negBRd (rd : Reg8)
  /-- NEG.W Rd (R244) -/
  | negWRd (rd : Reg16)
  /-- NEG.L ERd (R245) -/
  | negLERd (erd : RegNum)
  /-- DAA Rd (R234) -/
  | daaRd (rd : Reg8)
  /-- DAS Rd (R235) -/
  | dasRd (rd : Reg8)
  /-- MULXU.B Rs,Rd (R261) -/
  | mulxuBRsRd (rs : Reg8) (rd : Reg16)
  /-- MULXU.W Rs,ERd (R262) -/
  | mulxuWRsERd (rs : Reg16) (erd : RegNum)
  /-- MULXS.B Rs,Rd (R263) -/
  | mulxsBRsRd (rs : Reg8) (rd : Reg16)
  /-- MULXS.W Rs,ERd (R264) -/
  | mulxsWRsERd (rs : Reg16) (erd : RegNum)
  /-- DIVXU.B Rs,Rd (R266) -/
  | divxuBRsRd (rs : Reg8) (rd : Reg16)
  /-- DIVXU.W Rs,ERd (R267) -/
  | divxuWRsERd (rs : Reg16) (erd : RegNum)
  /-- DIVXS.B Rs,Rd (R268) -/
  | divxsBRsRd (rs : Reg8) (rd : Reg16)
  /-- DIVXS.W Rs,ERd (R269) -/
  | divxsWRsERd (rs : Reg16) (erd : RegNum)
  /-- EXTU.W Rd (R270) -/
  | extuWRd (rd : Reg16)
  /-- EXTU.L ERd (R271) -/
  | extuLERd (erd : RegNum)
  /-- EXTS.W Rd (R272) -/
  | extsWRd (rd : Reg16)
  /-- EXTS.L ERd (R273) -/
  | extsLERd (erd : RegNum)
  /-- TAS @ERd (R278) -/
  | tasAtERd (erd : RegNum)
  /-- MAC @ERn+,@ERm+ (R279) -/
  | macERnIncERmInc (ern : RegNum) (erm : RegNum)
  /-- CLRMAC (R281) -/
  | clrmac
  /-- LDMAC ERs,MACH (R282) -/
  | ldmacERsMACH (ers : RegNum)
  /-- LDMAC ERs,MACL (R283) -/
  | ldmacERsMACL (ers : RegNum)
  /-- STMAC MACH,ERd (R284) -/
  | stmacMACHERd (erd : RegNum)
  /-- STMAC MACL,ERd (R285) -/
  | stmacMACLERd (erd : RegNum)
  /-- AND.B #xx:8,Rd (R301) -/
  | andBImm8Rd (imm : BitVec 8) (rd : Reg8)
  /-- AND.B Rs,Rd (R302) -/
  | andBRsRd (rs : Reg8) (rd : Reg8)
  /-- AND.W #xx:16,Rd (R303) -/
  | andWImm16Rd (imm : BitVec 16) (rd : Reg16)
  /-- AND.W Rs,Rd (R304) -/
  | andWRsRd (rs : Reg16) (rd : Reg16)
  /-- AND.L #xx:32,ERd (R305) -/
  | andLImm32ERd (imm : BitVec 32) (erd : RegNum)
  /-- AND.L ERs,ERd (R306) -/
  | andLERsERd (ers : RegNum) (erd : RegNum)
  /-- OR.B #xx:8,Rd (R307) -/
  | orBImm8Rd (imm : BitVec 8) (rd : Reg8)
  /-- OR.B Rs,Rd (R308) -/
  | orBRsRd (rs : Reg8) (rd : Reg8)
  /-- OR.W #xx:16,Rd (R309) -/
  | orWImm16Rd (imm : BitVec 16) (rd : Reg16)
  /-- OR.W Rs,Rd (R310) -/
  | orWRsRd (rs : Reg16) (rd : Reg16)
  /-- OR.L #xx:32,ERd (R311) -/
  | orLImm32ERd (imm : BitVec 32) (erd : RegNum)
  /-- OR.L ERs,ERd (R312) -/
  | orLERsERd (ers : RegNum) (erd : RegNum)
  /-- XOR.B #xx:8,Rd (R313) -/
  | xorBImm8Rd (imm : BitVec 8) (rd : Reg8)
  /-- XOR.B Rs,Rd (R314) -/
  | xorBRsRd (rs : Reg8) (rd : Reg8)
  /-- XOR.W #xx:16,Rd (R315) -/
  | xorWImm16Rd (imm : BitVec 16) (rd : Reg16)
  /-- XOR.W Rs,Rd (R316) -/
  | xorWRsRd (rs : Reg16) (rd : Reg16)
  /-- XOR.L #xx:32,ERd (R317) -/
  | xorLImm32ERd (imm : BitVec 32) (erd : RegNum)
  /-- XOR.L ERs,ERd (R318) -/
  | xorLERsERd (ers : RegNum) (erd : RegNum)
  /-- NOT.B Rd (R319) -/
  | notBRd (rd : Reg8)
  /-- NOT.W Rd (R320) -/
  | notWRd (rd : Reg16)
  /-- NOT.L ERd (R321) -/
  | notLERd (erd : RegNum)
  /-- SHAL.B Rd (R602) -/
  | shalBRd (rd : Reg8)
  /-- SHAL.B #2,Rd (R603) -/
  | shalBBy2Rd (rd : Reg8)
  /-- SHAL.W Rd (R604) -/
  | shalWRd (rd : Reg16)
  /-- SHAL.W #2,Rd (R605) -/
  | shalWBy2Rd (rd : Reg16)
  /-- SHAL.L ERd (R606) -/
  | shalLERd (erd : RegNum)
  /-- SHAL.L #2,ERd (R607) -/
  | shalLBy2ERd (erd : RegNum)
  /-- SHAR.B Rd (R608) -/
  | sharBRd (rd : Reg8)
  /-- SHAR.B #2,Rd (R609) -/
  | sharBBy2Rd (rd : Reg8)
  /-- SHAR.W Rd (R610) -/
  | sharWRd (rd : Reg16)
  /-- SHAR.W #2,Rd (R611) -/
  | sharWBy2Rd (rd : Reg16)
  /-- SHAR.L ERd (R612) -/
  | sharLERd (erd : RegNum)
  /-- SHAR.L #2,ERd (R613) -/
  | sharLBy2ERd (erd : RegNum)
  /-- SHLL.B Rd (R614) -/
  | shllBRd (rd : Reg8)
  /-- SHLL.B #2,Rd (R615) -/
  | shllBBy2Rd (rd : Reg8)
  /-- SHLL.W Rd (R616) -/
  | shllWRd (rd : Reg16)
  /-- SHLL.W #2,Rd (R617) -/
  | shllWBy2Rd (rd : Reg16)
  /-- SHLL.L ERd (R618) -/
  | shllLERd (erd : RegNum)
  /-- SHLL.L #2,ERd (R619) -/
  | shllLBy2ERd (erd : RegNum)
  /-- SHLR.B Rd (R620) -/
  | shlrBRd (rd : Reg8)
  /-- SHLR.B #2,Rd (R621) -/
  | shlrBBy2Rd (rd : Reg8)
  /-- SHLR.W Rd (R622) -/
  | shlrWRd (rd : Reg16)
  /-- SHLR.W #2,Rd (R623) -/
  | shlrWBy2Rd (rd : Reg16)
  /-- SHLR.L ERd (R624) -/
  | shlrLERd (erd : RegNum)
  /-- SHLR.L #2,ERd (R625) -/
  | shlrLBy2ERd (erd : RegNum)
  /-- ROTL.B Rd (R626) -/
  | rotlBRd (rd : Reg8)
  /-- ROTL.B #2,Rd (R627) -/
  | rotlBBy2Rd (rd : Reg8)
  /-- ROTL.W Rd (R628) -/
  | rotlWRd (rd : Reg16)
  /-- ROTL.W #2,Rd (R629) -/
  | rotlWBy2Rd (rd : Reg16)
  /-- ROTL.L ERd (R630) -/
  | rotlLERd (erd : RegNum)
  /-- ROTL.L #2,ERd (R631) -/
  | rotlLBy2ERd (erd : RegNum)
  /-- ROTR.B Rd (R632) -/
  | rotrBRd (rd : Reg8)
  /-- ROTR.B #2,Rd (R633) -/
  | rotrBBy2Rd (rd : Reg8)
  /-- ROTR.W Rd (R634) -/
  | rotrWRd (rd : Reg16)
  /-- ROTR.W #2,Rd (R635) -/
  | rotrWBy2Rd (rd : Reg16)
  /-- ROTR.L ERd (R636) -/
  | rotrLERd (erd : RegNum)
  /-- ROTR.L #2,ERd (R637) -/
  | rotrLBy2ERd (erd : RegNum)
  /-- ROTXL.B Rd (R638) -/
  | rotxlBRd (rd : Reg8)
  /-- ROTXL.B #2,Rd (R639) -/
  | rotxlBBy2Rd (rd : Reg8)
  /-- ROTXL.W Rd (R640) -/
  | rotxlWRd (rd : Reg16)
  /-- ROTXL.W #2,Rd (R641) -/
  | rotxlWBy2Rd (rd : Reg16)
  /-- ROTXL.L ERd (R642) -/
  | rotxlLERd (erd : RegNum)
  /-- ROTXL.L #2,ERd (R643) -/
  | rotxlLBy2ERd (erd : RegNum)
  /-- ROTXR.B Rd (R644) -/
  | rotxrBRd (rd : Reg8)
  /-- ROTXR.B #2,Rd (R645) -/
  | rotxrBBy2Rd (rd : Reg8)
  /-- ROTXR.W Rd (R646) -/
  | rotxrWRd (rd : Reg16)
  /-- ROTXR.W #2,Rd (R647) -/
  | rotxrWBy2Rd (rd : Reg16)
  /-- ROTXR.L ERd (R648) -/
  | rotxrLERd (erd : RegNum)
  /-- ROTXR.L #2,ERd (R649) -/
  | rotxrLBy2ERd (erd : RegNum)
  /-- BAND #xx:3,Rd (R710) -/
  | bandImm3Rd (n : BitNum) (rd : Reg8)
  /-- BAND #xx:3,@ERd (R711) -/
  | bandImm3AtERd (n : BitNum) (erd : RegNum)
  /-- BAND #xx:3,@aa:8 (R712) -/
  | bandImm3Aa8 (n : BitNum) (abs : BitVec 8)
  /-- BAND #xx:3,@aa:16 (R713) -/
  | bandImm3Aa16 (n : BitNum) (abs : BitVec 16)
  /-- BAND #xx:3,@aa:32 (R714) -/
  | bandImm3Aa32 (n : BitNum) (abs : BitVec 32)
  /-- BCLR #xx:3,Rd (R715) -/
  | bclrImm3Rd (n : BitNum) (rd : Reg8)
  /-- BCLR #xx:3,@ERd (R716) -/
  | bclrImm3AtERd (n : BitNum) (erd : RegNum)
  /-- BCLR #xx:3,@aa:8 (R717) -/
  | bclrImm3Aa8 (n : BitNum) (abs : BitVec 8)
  /-- BCLR #xx:3,@aa:16 (R718) -/
  | bclrImm3Aa16 (n : BitNum) (abs : BitVec 16)
  /-- BCLR #xx:3,@aa:32 (R719) -/
  | bclrImm3Aa32 (n : BitNum) (abs : BitVec 32)
  /-- BCLR Rn,Rd (R720) -/
  | bclrRnRd (rn : Reg8) (rd : Reg8)
  /-- BCLR Rn,@ERd (R721) -/
  | bclrRnAtERd (rn : Reg8) (erd : RegNum)
  /-- BCLR Rn,@aa:8 (R722) -/
  | bclrRnAa8 (rn : Reg8) (abs : BitVec 8)
  /-- BCLR Rn,@aa:16 (R723) -/
  | bclrRnAa16 (rn : Reg8) (abs : BitVec 16)
  /-- BCLR Rn,@aa:32 (R724) -/
  | bclrRnAa32 (rn : Reg8) (abs : BitVec 32)
  /-- BIAND #xx:3,Rd (R725) -/
  | biandImm3Rd (n : BitNum) (rd : Reg8)
  /-- BIAND #xx:3,@ERd (R726) -/
  | biandImm3AtERd (n : BitNum) (erd : RegNum)
  /-- BIAND #xx:3,@aa:8 (R727) -/
  | biandImm3Aa8 (n : BitNum) (abs : BitVec 8)
  /-- BIAND #xx:3,@aa:16 (R728) -/
  | biandImm3Aa16 (n : BitNum) (abs : BitVec 16)
  /-- BIAND #xx:3,@aa:32 (R729) -/
  | biandImm3Aa32 (n : BitNum) (abs : BitVec 32)
  /-- BILD #xx:3,Rd (R730) -/
  | bildImm3Rd (n : BitNum) (rd : Reg8)
  /-- BILD #xx:3,@ERd (R731) -/
  | bildImm3AtERd (n : BitNum) (erd : RegNum)
  /-- BILD #xx:3,@aa:8 (R732) -/
  | bildImm3Aa8 (n : BitNum) (abs : BitVec 8)
  /-- BILD #xx:3,@aa:16 (R733) -/
  | bildImm3Aa16 (n : BitNum) (abs : BitVec 16)
  /-- BILD #xx:3,@aa:32 (R734) -/
  | bildImm3Aa32 (n : BitNum) (abs : BitVec 32)
  /-- BIOR #xx:3,Rd (R735) -/
  | biorImm3Rd (n : BitNum) (rd : Reg8)
  /-- BIOR #xx:3,@ERd (R736) -/
  | biorImm3AtERd (n : BitNum) (erd : RegNum)
  /-- BIOR #xx:3,@aa:8 (R737) -/
  | biorImm3Aa8 (n : BitNum) (abs : BitVec 8)
  /-- BIOR #xx:3,@aa:16 (R738) -/
  | biorImm3Aa16 (n : BitNum) (abs : BitVec 16)
  /-- BIOR #xx:3,@aa:32 (R739) -/
  | biorImm3Aa32 (n : BitNum) (abs : BitVec 32)
  /-- BIST #xx:3,Rd (R740) -/
  | bistImm3Rd (n : BitNum) (rd : Reg8)
  /-- BIST #xx:3,@ERd (R741) -/
  | bistImm3AtERd (n : BitNum) (erd : RegNum)
  /-- BIST #xx:3,@aa:8 (R742) -/
  | bistImm3Aa8 (n : BitNum) (abs : BitVec 8)
  /-- BIST #xx:3,@aa:16 (R743) -/
  | bistImm3Aa16 (n : BitNum) (abs : BitVec 16)
  /-- BIST #xx:3,@aa:32 (R744) -/
  | bistImm3Aa32 (n : BitNum) (abs : BitVec 32)
  /-- BIXOR #xx:3,Rd (R745) -/
  | bixorImm3Rd (n : BitNum) (rd : Reg8)
  /-- BIXOR #xx:3,@ERd (R746) -/
  | bixorImm3AtERd (n : BitNum) (erd : RegNum)
  /-- BIXOR #xx:3,@aa:8 (R747) -/
  | bixorImm3Aa8 (n : BitNum) (abs : BitVec 8)
  /-- BIXOR #xx:3,@aa:16 (R748) -/
  | bixorImm3Aa16 (n : BitNum) (abs : BitVec 16)
  /-- BIXOR #xx:3,@aa:32 (R749) -/
  | bixorImm3Aa32 (n : BitNum) (abs : BitVec 32)
  /-- BLD #xx:3,Rd (R750) -/
  | bldImm3Rd (n : BitNum) (rd : Reg8)
  /-- BLD #xx:3,@ERd (R751) -/
  | bldImm3AtERd (n : BitNum) (erd : RegNum)
  /-- BLD #xx:3,@aa:8 (R752) -/
  | bldImm3Aa8 (n : BitNum) (abs : BitVec 8)
  /-- BLD #xx:3,@aa:16 (R753) -/
  | bldImm3Aa16 (n : BitNum) (abs : BitVec 16)
  /-- BLD #xx:3,@aa:32 (R754) -/
  | bldImm3Aa32 (n : BitNum) (abs : BitVec 32)
  /-- BNOT #xx:3,Rd (R755) -/
  | bnotImm3Rd (n : BitNum) (rd : Reg8)
  /-- BNOT #xx:3,@ERd (R756) -/
  | bnotImm3AtERd (n : BitNum) (erd : RegNum)
  /-- BNOT #xx:3,@aa:8 (R757) -/
  | bnotImm3Aa8 (n : BitNum) (abs : BitVec 8)
  /-- BNOT #xx:3,@aa:16 (R758) -/
  | bnotImm3Aa16 (n : BitNum) (abs : BitVec 16)
  /-- BNOT #xx:3,@aa:32 (R759) -/
  | bnotImm3Aa32 (n : BitNum) (abs : BitVec 32)
  /-- BNOT Rn,Rd (R760) -/
  | bnotRnRd (rn : Reg8) (rd : Reg8)
  /-- BNOT Rn,@ERd (R761) -/
  | bnotRnAtERd (rn : Reg8) (erd : RegNum)
  /-- BNOT Rn,@aa:8 (R762) -/
  | bnotRnAa8 (rn : Reg8) (abs : BitVec 8)
  /-- BNOT Rn,@aa:16 (R763) -/
  | bnotRnAa16 (rn : Reg8) (abs : BitVec 16)
  /-- BNOT Rn,@aa:32 (R764) -/
  | bnotRnAa32 (rn : Reg8) (abs : BitVec 32)
  /-- BOR #xx:3,Rd (R765) -/
  | borImm3Rd (n : BitNum) (rd : Reg8)
  /-- BOR #xx:3,@ERd (R766) -/
  | borImm3AtERd (n : BitNum) (erd : RegNum)
  /-- BOR #xx:3,@aa:8 (R767) -/
  | borImm3Aa8 (n : BitNum) (abs : BitVec 8)
  /-- BOR #xx:3,@aa:16 (R768) -/
  | borImm3Aa16 (n : BitNum) (abs : BitVec 16)
  /-- BOR #xx:3,@aa:32 (R769) -/
  | borImm3Aa32 (n : BitNum) (abs : BitVec 32)
  /-- BSET #xx:3,Rd (R770) -/
  | bsetImm3Rd (n : BitNum) (rd : Reg8)
  /-- BSET #xx:3,@ERd (R771) -/
  | bsetImm3AtERd (n : BitNum) (erd : RegNum)
  /-- BSET #xx:3,@aa:8 (R772) -/
  | bsetImm3Aa8 (n : BitNum) (abs : BitVec 8)
  /-- BSET #xx:3,@aa:16 (R773) -/
  | bsetImm3Aa16 (n : BitNum) (abs : BitVec 16)
  /-- BSET #xx:3,@aa:32 (R774) -/
  | bsetImm3Aa32 (n : BitNum) (abs : BitVec 32)
  /-- BSET Rn,Rd (R775) -/
  | bsetRnRd (rn : Reg8) (rd : Reg8)
  /-- BSET Rn,@ERd (R776) -/
  | bsetRnAtERd (rn : Reg8) (erd : RegNum)
  /-- BSET Rn,@aa:8 (R777) -/
  | bsetRnAa8 (rn : Reg8) (abs : BitVec 8)
  /-- BSET Rn,@aa:16 (R778) -/
  | bsetRnAa16 (rn : Reg8) (abs : BitVec 16)
  /-- BSET Rn,@aa:32 (R779) -/
  | bsetRnAa32 (rn : Reg8) (abs : BitVec 32)
  /-- BST #xx:3,Rd (R780) -/
  | bstImm3Rd (n : BitNum) (rd : Reg8)
  /-- BST #xx:3,@ERd (R781) -/
  | bstImm3AtERd (n : BitNum) (erd : RegNum)
  /-- BST #xx:3,@aa:8 (R782) -/
  | bstImm3Aa8 (n : BitNum) (abs : BitVec 8)
  /-- BST #xx:3,@aa:16 (R783) -/
  | bstImm3Aa16 (n : BitNum) (abs : BitVec 16)
  /-- BST #xx:3,@aa:32 (R784) -/
  | bstImm3Aa32 (n : BitNum) (abs : BitVec 32)
  /-- BTST #xx:3,Rd (R785) -/
  | btstImm3Rd (n : BitNum) (rd : Reg8)
  /-- BTST #xx:3,@ERd (R786) -/
  | btstImm3AtERd (n : BitNum) (erd : RegNum)
  /-- BTST #xx:3,@aa:8 (R787) -/
  | btstImm3Aa8 (n : BitNum) (abs : BitVec 8)
  /-- BTST #xx:3,@aa:16 (R788) -/
  | btstImm3Aa16 (n : BitNum) (abs : BitVec 16)
  /-- BTST #xx:3,@aa:32 (R789) -/
  | btstImm3Aa32 (n : BitNum) (abs : BitVec 32)
  /-- BTST Rn,Rd (R790) -/
  | btstRnRd (rn : Reg8) (rd : Reg8)
  /-- BTST Rn,@ERd (R791) -/
  | btstRnAtERd (rn : Reg8) (erd : RegNum)
  /-- BTST Rn,@aa:8 (R792) -/
  | btstRnAa8 (rn : Reg8) (abs : BitVec 8)
  /-- BTST Rn,@aa:16 (R793) -/
  | btstRnAa16 (rn : Reg8) (abs : BitVec 16)
  /-- BTST Rn,@aa:32 (R794) -/
  | btstRnAa32 (rn : Reg8) (abs : BitVec 32)
  /-- BXOR #xx:3,Rd (R795) -/
  | bxorImm3Rd (n : BitNum) (rd : Reg8)
  /-- BXOR #xx:3,@ERd (R796) -/
  | bxorImm3AtERd (n : BitNum) (erd : RegNum)
  /-- BXOR #xx:3,@aa:8 (R797) -/
  | bxorImm3Aa8 (n : BitNum) (abs : BitVec 8)
  /-- BXOR #xx:3,@aa:16 (R798) -/
  | bxorImm3Aa16 (n : BitNum) (abs : BitVec 16)
  /-- BXOR #xx:3,@aa:32 (R799) -/
  | bxorImm3Aa32 (n : BitNum) (abs : BitVec 32)
  /-- BRA (BT) d:8 (R904) -/
  | braD8 (disp : BitVec 8)
  /-- BRA (BT) d:16 (R905) -/
  | braD16 (disp : BitVec 16)
  /-- BRN (BF) d:8 (R906) -/
  | brnD8 (disp : BitVec 8)
  /-- BRN (BF) d:16 (R907) -/
  | brnD16 (disp : BitVec 16)
  /-- BHI d:8 (R908) -/
  | bhiD8 (disp : BitVec 8)
  /-- BHI d:16 (R909) -/
  | bhiD16 (disp : BitVec 16)
  /-- BLS d:8 (R910) -/
  | blsD8 (disp : BitVec 8)
  /-- BLS d:16 (R911) -/
  | blsD16 (disp : BitVec 16)
  /-- BCC (BHS) d:8 (R912) -/
  | bccD8 (disp : BitVec 8)
  /-- BCC (BHS) d:16 (R913) -/
  | bccD16 (disp : BitVec 16)
  /-- BCS (BLO) d:8 (R914) -/
  | bcsD8 (disp : BitVec 8)
  /-- BCS (BLO) d:16 (R915) -/
  | bcsD16 (disp : BitVec 16)
  /-- BNE d:8 (R916) -/
  | bneD8 (disp : BitVec 8)
  /-- BNE d:16 (R917) -/
  | bneD16 (disp : BitVec 16)
  /-- BEQ d:8 (R918) -/
  | beqD8 (disp : BitVec 8)
  /-- BEQ d:16 (R919) -/
  | beqD16 (disp : BitVec 16)
  /-- BVC d:8 (R920) -/
  | bvcD8 (disp : BitVec 8)
  /-- BVC d:16 (R921) -/
  | bvcD16 (disp : BitVec 16)
  /-- BVS d:8 (R922) -/
  | bvsD8 (disp : BitVec 8)
  /-- BVS d:16 (R923) -/
  | bvsD16 (disp : BitVec 16)
  /-- BPL d:8 (R924) -/
  | bplD8 (disp : BitVec 8)
  /-- BPL d:16 (R925) -/
  | bplD16 (disp : BitVec 16)
  /-- BMI d:8 (R926) -/
  | bmiD8 (disp : BitVec 8)
  /-- BMI d:16 (R927) -/
  | bmiD16 (disp : BitVec 16)
  /-- BGE d:8 (R928) -/
  | bgeD8 (disp : BitVec 8)
  /-- BGE d:16 (R929) -/
  | bgeD16 (disp : BitVec 16)
  /-- BLT d:8 (R930) -/
  | bltD8 (disp : BitVec 8)
  /-- BLT d:16 (R931) -/
  | bltD16 (disp : BitVec 16)
  /-- BGT d:8 (R932) -/
  | bgtD8 (disp : BitVec 8)
  /-- BGT d:16 (R933) -/
  | bgtD16 (disp : BitVec 16)
  /-- BLE d:8 (R934) -/
  | bleD8 (disp : BitVec 8)
  /-- BLE d:16 (R935) -/
  | bleD16 (disp : BitVec 16)
  /-- JMP @ERn (R936) -/
  | jmpAtERn (ern : RegNum)
  /-- JMP @aa:24 (R937) -/
  | jmpAa24 (abs : BitVec 24)
  /-- JMP @@aa:8 (R938) -/
  | jmpMemAa8 (abs : BitVec 8)
  /-- BSR d:8 (R939) -/
  | bsrD8 (disp : BitVec 8)
  /-- BSR d:16 (R940) -/
  | bsrD16 (disp : BitVec 16)
  /-- JSR @ERn (R941) -/
  | jsrAtERn (ern : RegNum)
  /-- JSR @aa:24 (R942) -/
  | jsrAa24 (abs : BitVec 24)
  /-- JSR @@aa:8 (R943) -/
  | jsrMemAa8 (abs : BitVec 8)
  /-- RTS (R944) -/
  | rts
  /-- TRAPA #x:2 (R804) -/
  | trapa (imm : BitVec 2)
  /-- RTE (R805) -/
  | rte
  /-- SLEEP (R806) -/
  | sleep
  /-- NOP (R807) -/
  | nop
  /-- LDC.B #xx:8,CCR (R810) -/
  | ldcBImm8CCR (imm : BitVec 8)
  /-- LDC.B #xx:8,EXR (R811) -/
  | ldcBImm8EXR (imm : BitVec 8)
  /-- LDC.B Rs,CCR (R812) -/
  | ldcBRsCCR (rs : Reg8)
  /-- LDC.B Rs,EXR (R813) -/
  | ldcBRsEXR (rs : Reg8)
  /-- LDC.W @ERs,CCR (R814) -/
  | ldcWAtERsCCR (ers : RegNum)
  /-- LDC.W @(d:16,ERs),CCR (R815) -/
  | ldcWD16ERsCCR (ers : RegNum) (disp : BitVec 16)
  /-- LDC.W @(d:32,ERs),CCR (R816) -/
  | ldcWD32ERsCCR (ers : RegNum) (disp : BitVec 32)
  /-- LDC.W @ERs+,CCR (R817) -/
  | ldcWERsIncCCR (ers : RegNum)
  /-- LDC.W @aa:16,CCR (R818) -/
  | ldcWAa16CCR (abs : BitVec 16)
  /-- LDC.W @aa:32,CCR (R819) -/
  | ldcWAa32CCR (abs : BitVec 32)
  /-- LDC.W @ERs,EXR (R820) -/
  | ldcWAtERsEXR (ers : RegNum)
  /-- LDC.W @(d:16,ERs),EXR (R821) -/
  | ldcWD16ERsEXR (ers : RegNum) (disp : BitVec 16)
  /-- LDC.W @(d:32,ERs),EXR (R822) -/
  | ldcWD32ERsEXR (ers : RegNum) (disp : BitVec 32)
  /-- LDC.W @ERs+,EXR (R823) -/
  | ldcWERsIncEXR (ers : RegNum)
  /-- LDC.W @aa:16,EXR (R824) -/
  | ldcWAa16EXR (abs : BitVec 16)
  /-- LDC.W @aa:32,EXR (R825) -/
  | ldcWAa32EXR (abs : BitVec 32)
  /-- STC.B CCR,Rd (R830) -/
  | stcBCCRRd (rd : Reg8)
  /-- STC.B EXR,Rd (R831) -/
  | stcBEXRRd (rd : Reg8)
  /-- STC.W CCR,@ERd (R832) -/
  | stcWCCRAtERd (erd : RegNum)
  /-- STC.W CCR,@(d:16,ERd) (R833) -/
  | stcWCCRD16ERd (erd : RegNum) (disp : BitVec 16)
  /-- STC.W CCR,@(d:32,ERd) (R834) -/
  | stcWCCRD32ERd (erd : RegNum) (disp : BitVec 32)
  /-- STC.W CCR,@-ERd (R835) -/
  | stcWCCRDecERd (erd : RegNum)
  /-- STC.W CCR,@aa:16 (R836) -/
  | stcWCCRAa16 (abs : BitVec 16)
  /-- STC.W CCR,@aa:32 (R837) -/
  | stcWCCRAa32 (abs : BitVec 32)
  /-- STC.W EXR,@ERd (R838) -/
  | stcWEXRAtERd (erd : RegNum)
  /-- STC.W EXR,@(d:16,ERd) (R839) -/
  | stcWEXRD16ERd (erd : RegNum) (disp : BitVec 16)
  /-- STC.W EXR,@(d:32,ERd) (R840) -/
  | stcWEXRD32ERd (erd : RegNum) (disp : BitVec 32)
  /-- STC.W EXR,@-ERd (R841) -/
  | stcWEXRDecERd (erd : RegNum)
  /-- STC.W EXR,@aa:16 (R842) -/
  | stcWEXRAa16 (abs : BitVec 16)
  /-- STC.W EXR,@aa:32 (R843) -/
  | stcWEXRAa32 (abs : BitVec 32)
  /-- ANDC #xx:8,CCR (R850) -/
  | andcImm8CCR (imm : BitVec 8)
  /-- ANDC #xx:8,EXR (R851) -/
  | andcImm8EXR (imm : BitVec 8)
  /-- ORC #xx:8,CCR (R852) -/
  | orcImm8CCR (imm : BitVec 8)
  /-- ORC #xx:8,EXR (R853) -/
  | orcImm8EXR (imm : BitVec 8)
  /-- XORC #xx:8,CCR (R854) -/
  | xorcImm8CCR (imm : BitVec 8)
  /-- XORC #xx:8,EXR (R855) -/
  | xorcImm8EXR (imm : BitVec 8)
  /-- EEPMOV.B (R451) -/
  | eepmovB
  /-- EEPMOV.W (R452) -/
  | eepmovW
deriving DecidableEq, Repr

end Sys2Proof
end

