-- ==== Sys2Proof/WellFormed.lean ====
section
/-! DEFINITION. Which instructions are well formed: the register lists of LDM and STM (R189, R190), the registers of TAS
(R278), and the one spelling of a word that has two (R118; log 31). -/

namespace Sys2Proof

/-- The registers LDM.L may name as the highest of a list of `count` (R189, D27). -/
def ldmListed (count : Nat) (rn : RegNum) : Bool :=
  match count with
  | 2 => rn.val % 2 == 1
  | 3 => rn.val % 4 == 2
  | 4 => rn.val % 4 == 3
  | _ => false

/-- The registers STM.L may name as the lowest of a list of `count` (R190, D27). -/
def stmListed (count : Nat) (rn : RegNum) : Bool :=
  match count with
  | 2 => rn.val % 2 == 0
  | 3 => rn.val % 4 == 0
  | 4 => rn.val % 4 == 0
  | _ => false

/-- TAS takes ER0, ER1, ER4 and ER5 only (R278, D24). -/
def tasRegister (erd : RegNum) : Bool := decide (erd.val % 4 < 2)

/-- The instruction is the meaning of an encoding, under its own name: MOV.W and MOV.L through @ER7+ and @-ER7 are written
POP and PUSH (R118). -/
def Instr.wellFormed : Instr → Bool
  | .ldmL2 rn => ldmListed 2 rn
  | .ldmL3 rn => ldmListed 3 rn
  | .ldmL4 rn => ldmListed 4 rn
  | .stmL2 rn => stmListed 2 rn
  | .stmL3 rn => stmListed 3 rn
  | .stmL4 rn => stmListed 4 rn
  | .tasAtERd erd => tasRegister erd
  | .movWERsIncRd ers _ => ers != 7
  | .movLERsIncERd ers _ => ers != 7
  | .movWRsDecERd _ erd => erd != 7
  | .movLERsDecERd _ erd => erd != 7
  | .movBRsRd .. | .movWRsRd .. | .movLERsERd .. | .movBImm8Rd .. | .movWImm16Rd .. | .movLImm32ERd ..
  | .movBAtERsRd .. | .movBD16ERsRd .. | .movBD32ERsRd .. | .movBERsIncRd .. | .movBAa8Rd .. | .movBAa16Rd ..
  | .movBAa32Rd .. | .movWAtERsRd .. | .movWD16ERsRd .. | .movWD32ERsRd .. | .movWAa16Rd .. | .movWAa32Rd ..
  | .movLAtERsERd .. | .movLD16ERsERd .. | .movLD32ERsERd .. | .movLAa16ERd .. | .movLAa32ERd .. | .movBRsAtERd ..
  | .movBRsD16ERd .. | .movBRsD32ERd .. | .movBRsDecERd .. | .movBRsAa8 .. | .movBRsAa16 .. | .movBRsAa32 ..
  | .movWRsAtERd .. | .movWRsD16ERd .. | .movWRsD32ERd .. | .movWRsAa16 .. | .movWRsAa32 .. | .movLERsAtERd ..
  | .movLERsD16ERd .. | .movLERsD32ERd .. | .movLERsAa16 .. | .movLERsAa32 .. | .popWRn .. | .popLERn ..
  | .pushWRn .. | .pushLERn .. | .movfpeAa16Rd .. | .movtpeRsAa16 .. | .addBImm8Rd .. | .addBRsRd ..
  | .addWImm16Rd .. | .addWRsRd .. | .addLImm32ERd .. | .addLERsERd .. | .addsBy1ERd .. | .addsBy2ERd ..
  | .addsBy4ERd .. | .addxImm8Rd .. | .addxRsRd .. | .subBRsRd .. | .subWImm16Rd .. | .subWRsRd .. | .subLImm32ERd ..
  | .subLERsERd .. | .subsBy1ERd .. | .subsBy2ERd .. | .subsBy4ERd .. | .subxImm8Rd .. | .subxRsRd ..
  | .cmpBImm8Rd .. | .cmpBRsRd .. | .cmpWImm16Rd .. | .cmpWRsRd .. | .cmpLImm32ERd .. | .cmpLERsERd .. | .incBRd ..
  | .incWBy1Rd .. | .incWBy2Rd .. | .incLBy1ERd .. | .incLBy2ERd .. | .decBRd .. | .decWBy1Rd .. | .decWBy2Rd ..
  | .decLBy1ERd .. | .decLBy2ERd .. | .negBRd .. | .negWRd .. | .negLERd .. | .daaRd .. | .dasRd .. | .mulxuBRsRd ..
  | .mulxuWRsERd .. | .mulxsBRsRd .. | .mulxsWRsERd .. | .divxuBRsRd .. | .divxuWRsERd .. | .divxsBRsRd ..
  | .divxsWRsERd .. | .extuWRd .. | .extuLERd .. | .extsWRd .. | .extsLERd .. | .macERnIncERmInc .. | .clrmac
  | .ldmacERsMACH .. | .ldmacERsMACL .. | .stmacMACHERd .. | .stmacMACLERd .. | .andBImm8Rd .. | .andBRsRd ..
  | .andWImm16Rd .. | .andWRsRd .. | .andLImm32ERd .. | .andLERsERd .. | .orBImm8Rd .. | .orBRsRd .. | .orWImm16Rd ..
  | .orWRsRd .. | .orLImm32ERd .. | .orLERsERd .. | .xorBImm8Rd .. | .xorBRsRd .. | .xorWImm16Rd .. | .xorWRsRd ..
  | .xorLImm32ERd .. | .xorLERsERd .. | .notBRd .. | .notWRd .. | .notLERd .. | .shalBRd .. | .shalBBy2Rd ..
  | .shalWRd .. | .shalWBy2Rd .. | .shalLERd .. | .shalLBy2ERd .. | .sharBRd .. | .sharBBy2Rd .. | .sharWRd ..
  | .sharWBy2Rd .. | .sharLERd .. | .sharLBy2ERd .. | .shllBRd .. | .shllBBy2Rd .. | .shllWRd .. | .shllWBy2Rd ..
  | .shllLERd .. | .shllLBy2ERd .. | .shlrBRd .. | .shlrBBy2Rd .. | .shlrWRd .. | .shlrWBy2Rd .. | .shlrLERd ..
  | .shlrLBy2ERd .. | .rotlBRd .. | .rotlBBy2Rd .. | .rotlWRd .. | .rotlWBy2Rd .. | .rotlLERd .. | .rotlLBy2ERd ..
  | .rotrBRd .. | .rotrBBy2Rd .. | .rotrWRd .. | .rotrWBy2Rd .. | .rotrLERd .. | .rotrLBy2ERd .. | .rotxlBRd ..
  | .rotxlBBy2Rd .. | .rotxlWRd .. | .rotxlWBy2Rd .. | .rotxlLERd .. | .rotxlLBy2ERd .. | .rotxrBRd ..
  | .rotxrBBy2Rd .. | .rotxrWRd .. | .rotxrWBy2Rd .. | .rotxrLERd .. | .rotxrLBy2ERd .. | .bandImm3Rd ..
  | .bandImm3AtERd .. | .bandImm3Aa8 .. | .bandImm3Aa16 .. | .bandImm3Aa32 .. | .bclrImm3Rd .. | .bclrImm3AtERd ..
  | .bclrImm3Aa8 .. | .bclrImm3Aa16 .. | .bclrImm3Aa32 .. | .bclrRnRd .. | .bclrRnAtERd .. | .bclrRnAa8 ..
  | .bclrRnAa16 .. | .bclrRnAa32 .. | .biandImm3Rd .. | .biandImm3AtERd .. | .biandImm3Aa8 .. | .biandImm3Aa16 ..
  | .biandImm3Aa32 .. | .bildImm3Rd .. | .bildImm3AtERd .. | .bildImm3Aa8 .. | .bildImm3Aa16 .. | .bildImm3Aa32 ..
  | .biorImm3Rd .. | .biorImm3AtERd .. | .biorImm3Aa8 .. | .biorImm3Aa16 .. | .biorImm3Aa32 .. | .bistImm3Rd ..
  | .bistImm3AtERd .. | .bistImm3Aa8 .. | .bistImm3Aa16 .. | .bistImm3Aa32 .. | .bixorImm3Rd .. | .bixorImm3AtERd ..
  | .bixorImm3Aa8 .. | .bixorImm3Aa16 .. | .bixorImm3Aa32 .. | .bldImm3Rd .. | .bldImm3AtERd .. | .bldImm3Aa8 ..
  | .bldImm3Aa16 .. | .bldImm3Aa32 .. | .bnotImm3Rd .. | .bnotImm3AtERd .. | .bnotImm3Aa8 .. | .bnotImm3Aa16 ..
  | .bnotImm3Aa32 .. | .bnotRnRd .. | .bnotRnAtERd .. | .bnotRnAa8 .. | .bnotRnAa16 .. | .bnotRnAa32 ..
  | .borImm3Rd .. | .borImm3AtERd .. | .borImm3Aa8 .. | .borImm3Aa16 .. | .borImm3Aa32 .. | .bsetImm3Rd ..
  | .bsetImm3AtERd .. | .bsetImm3Aa8 .. | .bsetImm3Aa16 .. | .bsetImm3Aa32 .. | .bsetRnRd .. | .bsetRnAtERd ..
  | .bsetRnAa8 .. | .bsetRnAa16 .. | .bsetRnAa32 .. | .bstImm3Rd .. | .bstImm3AtERd .. | .bstImm3Aa8 ..
  | .bstImm3Aa16 .. | .bstImm3Aa32 .. | .btstImm3Rd .. | .btstImm3AtERd .. | .btstImm3Aa8 .. | .btstImm3Aa16 ..
  | .btstImm3Aa32 .. | .btstRnRd .. | .btstRnAtERd .. | .btstRnAa8 .. | .btstRnAa16 .. | .btstRnAa32 ..
  | .bxorImm3Rd .. | .bxorImm3AtERd .. | .bxorImm3Aa8 .. | .bxorImm3Aa16 .. | .bxorImm3Aa32 .. | .braD8 ..
  | .braD16 .. | .brnD8 .. | .brnD16 .. | .bhiD8 .. | .bhiD16 .. | .blsD8 .. | .blsD16 .. | .bccD8 .. | .bccD16 ..
  | .bcsD8 .. | .bcsD16 .. | .bneD8 .. | .bneD16 .. | .beqD8 .. | .beqD16 .. | .bvcD8 .. | .bvcD16 .. | .bvsD8 ..
  | .bvsD16 .. | .bplD8 .. | .bplD16 .. | .bmiD8 .. | .bmiD16 .. | .bgeD8 .. | .bgeD16 .. | .bltD8 .. | .bltD16 ..
  | .bgtD8 .. | .bgtD16 .. | .bleD8 .. | .bleD16 .. | .jmpAtERn .. | .jmpAa24 .. | .jmpMemAa8 .. | .bsrD8 ..
  | .bsrD16 .. | .jsrAtERn .. | .jsrAa24 .. | .jsrMemAa8 .. | .rts | .trapa .. | .rte | .sleep | .nop
  | .ldcBImm8CCR .. | .ldcBImm8EXR .. | .ldcBRsCCR .. | .ldcBRsEXR .. | .ldcWAtERsCCR .. | .ldcWD16ERsCCR ..
  | .ldcWD32ERsCCR .. | .ldcWERsIncCCR .. | .ldcWAa16CCR .. | .ldcWAa32CCR .. | .ldcWAtERsEXR .. | .ldcWD16ERsEXR ..
  | .ldcWD32ERsEXR .. | .ldcWERsIncEXR .. | .ldcWAa16EXR .. | .ldcWAa32EXR .. | .stcBCCRRd .. | .stcBEXRRd ..
  | .stcWCCRAtERd .. | .stcWCCRD16ERd .. | .stcWCCRD32ERd .. | .stcWCCRDecERd .. | .stcWCCRAa16 .. | .stcWCCRAa32 ..
  | .stcWEXRAtERd .. | .stcWEXRD16ERd .. | .stcWEXRD32ERd .. | .stcWEXRDecERd .. | .stcWEXRAa16 .. | .stcWEXRAa32 ..
  | .andcImm8CCR .. | .andcImm8EXR .. | .orcImm8CCR .. | .orcImm8EXR .. | .xorcImm8CCR .. | .xorcImm8EXR ..
  | .eepmovB | .eepmovW => true

end Sys2Proof
end

