-- ==== Sys2Proof/Decode.lean ====
section
/-! DEFINITION. The decoder, total on any bytes, by the maps of R109 to R113, and after it the encoder, from the encodings of
the opcode table (R120). Bytes are in address order, the first one holding the operation field (R100, R101).
The section is noncomputable for one reason: Lean generates no code for an inductive type with more than 244 constructors
that have arguments, and `Instr` has more. Everything here is a plain definition that the kernel evaluates. -/

namespace Sys2Proof

noncomputable section

/-! ### Nibbles, register fields and multi-byte fields -/

/-- Bits 7 to 4 of a byte (R101). -/
def hi (b : Byte) : BitVec 4 := b.extractLsb' 4 4

/-- Bits 3 to 0 of a byte (R101). -/
def lo (b : Byte) : BitVec 4 := b.extractLsb' 0 4

/-- The byte with these two nibbles. -/
def nib (h l : BitVec 4) : Byte := h ++ l

/-- The top bit of a nibble. -/
def topBit (x : BitVec 4) : Bool := x.getLsbD 3

/-- The lower three bits of a nibble: a register number or a bit number (R104, R105). -/
def low3 (x : BitVec 4) : Fin 8 := (x.extractLsb' 0 3).toFin

/-- The register of a nibble `0erd`; none when its top bit is 1 (R104, R114). -/
def er0 (x : BitVec 4) : Option RegNum := if topBit x then none else some (low3 x)

/-- `reg8(f)` (R104). -/
def reg8Of (x : BitVec 4) : Reg8 := if topBit x then .l (low3 x) else .h (low3 x)

/-- `reg16(f)` (R104). -/
def reg16Of (x : BitVec 4) : Reg16 := if topBit x then .e (low3 x) else .r (low3 x)

/-- The 16-bit field that starts the list, most significant byte first (R101). -/
def take16 : List Byte → Option (BitVec 16)
  | a :: b :: _ => some (a ++ b)
  | _ => none

/-- The 32-bit field that starts the list. -/
def take32 : List Byte → Option (BitVec 32)
  | a :: b :: c :: d :: _ => some (a ++ b ++ c ++ d)
  | _ => none

/-- One of two readings of a nibble by its top bit. -/
def byTop {α : Type} (x : BitVec 4) (zero one : α) : α := if topBit x then one else zero

/-! ### Bit manipulation (R112) -/

/-- The operation word of the read class on @ERd. -/
def bitReadAtERd (erd : RegNum) (o x : Byte) : Option Instr :=
  if lo x ≠ 0 then none
  else
    match o.toNat with
    | 0x63 => some (.btstRnAtERd (reg8Of (hi x)) erd)
    | 0x73 => (er0 (hi x)).map fun n => .btstImm3AtERd n erd
    | 0x74 => some (byTop (hi x) (.borImm3AtERd (low3 (hi x)) erd) (.biorImm3AtERd (low3 (hi x)) erd))
    | 0x75 => some (byTop (hi x) (.bxorImm3AtERd (low3 (hi x)) erd) (.bixorImm3AtERd (low3 (hi x)) erd))
    | 0x76 => some (byTop (hi x) (.bandImm3AtERd (low3 (hi x)) erd) (.biandImm3AtERd (low3 (hi x)) erd))
    | 0x77 => some (byTop (hi x) (.bldImm3AtERd (low3 (hi x)) erd) (.bildImm3AtERd (low3 (hi x)) erd))
    | _ => none

/-- The operation word of the write class on @ERd. -/
def bitWriteAtERd (erd : RegNum) (o x : Byte) : Option Instr :=
  if lo x ≠ 0 then none
  else
    match o.toNat with
    | 0x60 => some (.bsetRnAtERd (reg8Of (hi x)) erd)
    | 0x61 => some (.bnotRnAtERd (reg8Of (hi x)) erd)
    | 0x62 => some (.bclrRnAtERd (reg8Of (hi x)) erd)
    | 0x67 => some (byTop (hi x) (.bstImm3AtERd (low3 (hi x)) erd) (.bistImm3AtERd (low3 (hi x)) erd))
    | 0x70 => (er0 (hi x)).map fun n => .bsetImm3AtERd n erd
    | 0x71 => (er0 (hi x)).map fun n => .bnotImm3AtERd n erd
    | 0x72 => (er0 (hi x)).map fun n => .bclrImm3AtERd n erd
    | _ => none

/-- The operation word of the read class on @aa:8. -/
def bitReadAa8 (abs : BitVec 8) (o x : Byte) : Option Instr :=
  if lo x ≠ 0 then none
  else
    match o.toNat with
    | 0x63 => some (.btstRnAa8 (reg8Of (hi x)) abs)
    | 0x73 => (er0 (hi x)).map fun n => .btstImm3Aa8 n abs
    | 0x74 => some (byTop (hi x) (.borImm3Aa8 (low3 (hi x)) abs) (.biorImm3Aa8 (low3 (hi x)) abs))
    | 0x75 => some (byTop (hi x) (.bxorImm3Aa8 (low3 (hi x)) abs) (.bixorImm3Aa8 (low3 (hi x)) abs))
    | 0x76 => some (byTop (hi x) (.bandImm3Aa8 (low3 (hi x)) abs) (.biandImm3Aa8 (low3 (hi x)) abs))
    | 0x77 => some (byTop (hi x) (.bldImm3Aa8 (low3 (hi x)) abs) (.bildImm3Aa8 (low3 (hi x)) abs))
    | _ => none

/-- The operation word of the write class on @aa:8. -/
def bitWriteAa8 (abs : BitVec 8) (o x : Byte) : Option Instr :=
  if lo x ≠ 0 then none
  else
    match o.toNat with
    | 0x60 => some (.bsetRnAa8 (reg8Of (hi x)) abs)
    | 0x61 => some (.bnotRnAa8 (reg8Of (hi x)) abs)
    | 0x62 => some (.bclrRnAa8 (reg8Of (hi x)) abs)
    | 0x67 => some (byTop (hi x) (.bstImm3Aa8 (low3 (hi x)) abs) (.bistImm3Aa8 (low3 (hi x)) abs))
    | 0x70 => (er0 (hi x)).map fun n => .bsetImm3Aa8 n abs
    | 0x71 => (er0 (hi x)).map fun n => .bnotImm3Aa8 n abs
    | 0x72 => (er0 (hi x)).map fun n => .bclrImm3Aa8 n abs
    | _ => none

/-- The operation word of the read class on @aa:16. -/
def bitReadAa16 (abs : BitVec 16) (o x : Byte) : Option Instr :=
  if lo x ≠ 0 then none
  else
    match o.toNat with
    | 0x63 => some (.btstRnAa16 (reg8Of (hi x)) abs)
    | 0x73 => (er0 (hi x)).map fun n => .btstImm3Aa16 n abs
    | 0x74 => some (byTop (hi x) (.borImm3Aa16 (low3 (hi x)) abs) (.biorImm3Aa16 (low3 (hi x)) abs))
    | 0x75 => some (byTop (hi x) (.bxorImm3Aa16 (low3 (hi x)) abs) (.bixorImm3Aa16 (low3 (hi x)) abs))
    | 0x76 => some (byTop (hi x) (.bandImm3Aa16 (low3 (hi x)) abs) (.biandImm3Aa16 (low3 (hi x)) abs))
    | 0x77 => some (byTop (hi x) (.bldImm3Aa16 (low3 (hi x)) abs) (.bildImm3Aa16 (low3 (hi x)) abs))
    | _ => none

/-- The operation word of the write class on @aa:16. -/
def bitWriteAa16 (abs : BitVec 16) (o x : Byte) : Option Instr :=
  if lo x ≠ 0 then none
  else
    match o.toNat with
    | 0x60 => some (.bsetRnAa16 (reg8Of (hi x)) abs)
    | 0x61 => some (.bnotRnAa16 (reg8Of (hi x)) abs)
    | 0x62 => some (.bclrRnAa16 (reg8Of (hi x)) abs)
    | 0x67 => some (byTop (hi x) (.bstImm3Aa16 (low3 (hi x)) abs) (.bistImm3Aa16 (low3 (hi x)) abs))
    | 0x70 => (er0 (hi x)).map fun n => .bsetImm3Aa16 n abs
    | 0x71 => (er0 (hi x)).map fun n => .bnotImm3Aa16 n abs
    | 0x72 => (er0 (hi x)).map fun n => .bclrImm3Aa16 n abs
    | _ => none

/-- The operation word of the read class on @aa:32. -/
def bitReadAa32 (abs : BitVec 32) (o x : Byte) : Option Instr :=
  if lo x ≠ 0 then none
  else
    match o.toNat with
    | 0x63 => some (.btstRnAa32 (reg8Of (hi x)) abs)
    | 0x73 => (er0 (hi x)).map fun n => .btstImm3Aa32 n abs
    | 0x74 => some (byTop (hi x) (.borImm3Aa32 (low3 (hi x)) abs) (.biorImm3Aa32 (low3 (hi x)) abs))
    | 0x75 => some (byTop (hi x) (.bxorImm3Aa32 (low3 (hi x)) abs) (.bixorImm3Aa32 (low3 (hi x)) abs))
    | 0x76 => some (byTop (hi x) (.bandImm3Aa32 (low3 (hi x)) abs) (.biandImm3Aa32 (low3 (hi x)) abs))
    | 0x77 => some (byTop (hi x) (.bldImm3Aa32 (low3 (hi x)) abs) (.bildImm3Aa32 (low3 (hi x)) abs))
    | _ => none

/-- The operation word of the write class on @aa:32. -/
def bitWriteAa32 (abs : BitVec 32) (o x : Byte) : Option Instr :=
  if lo x ≠ 0 then none
  else
    match o.toNat with
    | 0x60 => some (.bsetRnAa32 (reg8Of (hi x)) abs)
    | 0x61 => some (.bnotRnAa32 (reg8Of (hi x)) abs)
    | 0x62 => some (.bclrRnAa32 (reg8Of (hi x)) abs)
    | 0x67 => some (byTop (hi x) (.bstImm3Aa32 (low3 (hi x)) abs) (.bistImm3Aa32 (low3 (hi x)) abs))
    | 0x70 => (er0 (hi x)).map fun n => .bsetImm3Aa32 n abs
    | 0x71 => (er0 (hi x)).map fun n => .bnotImm3Aa32 n abs
    | 0x72 => (er0 (hi x)).map fun n => .bclrImm3Aa32 n abs
    | _ => none

/-- A memory bit operation: the two bytes of its operation word stand first in the list. -/
def opWord (f : Byte → Byte → Option Instr) : List Byte → Option Instr
  | o :: x :: _ => f o x
  | _ => none

/-! ### The longword group behind `01 00` and the LDC.W, STC.W group behind `01 40` and `01 41` (R111, R113) -/

/-- A MOV.L, POP.L or PUSH.L word after `01 00`. -/
def decode0100 : List Byte → Option Instr
  | 0x69#8 :: x :: _ => do
    let r ← er0 (lo x)
    some (byTop (hi x) (.movLAtERsERd (low3 (hi x)) r) (.movLERsAtERd r (low3 (hi x))))
  | 0x6B#8 :: x :: rest => do
    let r ← er0 (lo x)
    match (hi x).toNat with
    | 0x0 => (take16 rest).map fun a => .movLAa16ERd a r
    | 0x2 => (take32 rest).map fun a => .movLAa32ERd a r
    | 0x8 => (take16 rest).map fun a => .movLERsAa16 r a
    | 0xA => (take32 rest).map fun a => .movLERsAa32 r a
    | _ => none
  | 0x6D#8 :: x :: _ => do
    let r ← er0 (lo x)
    if low3 (hi x) = 7 then some (byTop (hi x) (.popLERn r) (.pushLERn r))
    else some (byTop (hi x) (.movLERsIncERd (low3 (hi x)) r) (.movLERsDecERd r (low3 (hi x))))
  | 0x6F#8 :: x :: rest => do
    let r ← er0 (lo x)
    let d ← take16 rest
    some (byTop (hi x) (.movLD16ERsERd (low3 (hi x)) d r) (.movLERsD16ERd r (low3 (hi x)) d))
  | 0x78#8 :: x :: 0x6B#8 :: y :: rest => do
    let r ← er0 (lo y)
    let d ← take32 rest
    if lo x ≠ 0 then none
    else
      match (hi y).toNat with
      | 0x2 => (er0 (hi x)).map fun n => .movLD32ERsERd n d r
      | 0xA => some (.movLERsD32ERd r (low3 (hi x)) d)
      | _ => none
  | _ => none

/-- An instruction word after `01 40`: CCR is the operand (R803). -/
def decode0140 : List Byte → Option Instr
  | 0x69#8 :: x :: _ =>
    if lo x ≠ 0 then none else some (byTop (hi x) (.ldcWAtERsCCR (low3 (hi x))) (.stcWCCRAtERd (low3 (hi x))))
  | 0x6B#8 :: x :: rest =>
    if lo x ≠ 0 then none
    else
      match (hi x).toNat with
      | 0x0 => (take16 rest).map fun a => .ldcWAa16CCR a
      | 0x2 => (take32 rest).map fun a => .ldcWAa32CCR a
      | 0x8 => (take16 rest).map fun a => .stcWCCRAa16 a
      | 0xA => (take32 rest).map fun a => .stcWCCRAa32 a
      | _ => none
  | 0x6D#8 :: x :: _ =>
    if lo x ≠ 0 then none else some (byTop (hi x) (.ldcWERsIncCCR (low3 (hi x))) (.stcWCCRDecERd (low3 (hi x))))
  | 0x6F#8 :: x :: rest => do
    let d ← take16 rest
    if lo x ≠ 0 then none
    else some (byTop (hi x) (.ldcWD16ERsCCR (low3 (hi x)) d) (.stcWCCRD16ERd (low3 (hi x)) d))
  | 0x78#8 :: x :: 0x6B#8 :: y :: rest => do
    let n ← er0 (hi x)
    let d ← take32 rest
    if lo x ≠ 0 then none
    else
      match y.toNat with
      | 0x20 => some (.ldcWD32ERsCCR n d)
      | 0xA0 => some (.stcWCCRD32ERd n d)
      | _ => none
  | _ => none

/-- An instruction word after `01 41`: EXR is the operand (R803). -/
def decode0141 : List Byte → Option Instr
  | 0x04#8 :: v :: _ => some (.orcImm8EXR v)
  | 0x05#8 :: v :: _ => some (.xorcImm8EXR v)
  | 0x06#8 :: v :: _ => some (.andcImm8EXR v)
  | 0x07#8 :: v :: _ => some (.ldcBImm8EXR v)
  | 0x69#8 :: x :: _ =>
    if lo x ≠ 0 then none else some (byTop (hi x) (.ldcWAtERsEXR (low3 (hi x))) (.stcWEXRAtERd (low3 (hi x))))
  | 0x6B#8 :: x :: rest =>
    if lo x ≠ 0 then none
    else
      match (hi x).toNat with
      | 0x0 => (take16 rest).map fun a => .ldcWAa16EXR a
      | 0x2 => (take32 rest).map fun a => .ldcWAa32EXR a
      | 0x8 => (take16 rest).map fun a => .stcWEXRAa16 a
      | 0xA => (take32 rest).map fun a => .stcWEXRAa32 a
      | _ => none
  | 0x6D#8 :: x :: _ =>
    if lo x ≠ 0 then none else some (byTop (hi x) (.ldcWERsIncEXR (low3 (hi x))) (.stcWEXRDecERd (low3 (hi x))))
  | 0x6F#8 :: x :: rest => do
    let d ← take16 rest
    if lo x ≠ 0 then none
    else some (byTop (hi x) (.ldcWD16ERsEXR (low3 (hi x)) d) (.stcWEXRD16ERd (low3 (hi x)) d))
  | 0x78#8 :: x :: 0x6B#8 :: y :: rest => do
    let n ← er0 (hi x)
    let d ← take32 rest
    if lo x ≠ 0 then none
    else
      match y.toNat with
      | 0x20 => some (.ldcWD32ERsEXR n d)
      | 0xA0 => some (.stcWEXRD32ERd n d)
      | _ => none
  | _ => none

/-- LDM.L and STM.L with `count` registers, after `01 10`, `01 20` or `01 30` (R189, R190). -/
def decodeList (count : Nat) (ldm stm : RegNum → Instr) : List Byte → Option Instr
  | 0x6D#8 :: x :: _ => do
    let r ← er0 (lo x)
    match (hi x).toNat with
    | 0x7 => if ldmListed count r then some (ldm r) else none
    | 0xF => if stmListed count r then some (stm r) else none
    | _ => none
  | _ => none

/-- Instructions that begin with `01` (R111). -/
def decode01 (b2 : Byte) (rest : List Byte) : Option Instr :=
  match b2.toNat with
  | 0x00 => decode0100 rest
  | 0x10 => decodeList 2 .ldmL2 .stmL2 rest
  | 0x20 => decodeList 3 .ldmL3 .stmL3 rest
  | 0x30 => decodeList 4 .ldmL4 .stmL4 rest
  | 0x40 => decode0140 rest
  | 0x41 => decode0141 rest
  | 0x60 =>
    match rest with
    | 0x6D#8 :: x :: _ => do
      let n ← er0 (hi x)
      let m ← er0 (lo x)
      some (.macERnIncERmInc n m)
    | _ => none
  | 0x80 => some .sleep
  | 0xA0 => some .clrmac
  | 0xC0 =>
    match rest with
    | 0x50#8 :: x :: _ => some (.mulxsBRsRd (reg8Of (hi x)) (reg16Of (lo x)))
    | 0x52#8 :: x :: _ => (er0 (lo x)).map fun r => .mulxsWRsERd (reg16Of (hi x)) r
    | _ => none
  | 0xD0 =>
    match rest with
    | 0x51#8 :: x :: _ => some (.divxsBRsRd (reg8Of (hi x)) (reg16Of (lo x)))
    | 0x53#8 :: x :: _ => (er0 (lo x)).map fun r => .divxsWRsERd (reg16Of (hi x)) r
    | _ => none
  | 0xE0 =>
    match rest with
    | 0x7B#8 :: x :: _ => do
      let r ← er0 (hi x)
      if lo x = 0xC ∧ tasRegister r then some (.tasAtERd r) else none
    | _ => none
  | 0xF0 =>
    match rest with
    | 0x64#8 :: x :: _ => do
      let s ← er0 (hi x)
      let d ← er0 (lo x)
      some (.orLERsERd s d)
    | 0x65#8 :: x :: _ => do
      let s ← er0 (hi x)
      let d ← er0 (lo x)
      some (.xorLERsERd s d)
    | 0x66#8 :: x :: _ => do
      let s ← er0 (hi x)
      let d ← er0 (lo x)
      some (.andLERsERd s d)
    | _ => none
  | _ => none

/-! ### Instructions by their first byte (R110, R111) -/

/-- Byte 2 of the instructions that begin with `02` (R111). -/
def decode02 (x : Byte) : Option Instr :=
  match (hi x).toNat with
  | 0x0 => some (.stcBCCRRd (reg8Of (lo x)))
  | 0x1 => some (.stcBEXRRd (reg8Of (lo x)))
  | 0x2 => (er0 (lo x)).map .stmacMACHERd
  | 0x3 => (er0 (lo x)).map .stmacMACLERd
  | _ => none

/-- Byte 2 of the instructions that begin with `03` (R111). -/
def decode03 (x : Byte) : Option Instr :=
  match (hi x).toNat with
  | 0x0 => some (.ldcBRsCCR (reg8Of (lo x)))
  | 0x1 => some (.ldcBRsEXR (reg8Of (lo x)))
  | 0x2 => (er0 (lo x)).map .ldmacERsMACH
  | 0x3 => (er0 (lo x)).map .ldmacERsMACL
  | _ => none

/-- Byte 2 of the instructions that begin with `0B` (R111). -/
def decode0B (x : Byte) : Option Instr :=
  match (hi x).toNat with
  | 0x0 => (er0 (lo x)).map .addsBy1ERd
  | 0x5 => some (.incWBy1Rd (reg16Of (lo x)))
  | 0x7 => (er0 (lo x)).map .incLBy1ERd
  | 0x8 => (er0 (lo x)).map .addsBy2ERd
  | 0x9 => (er0 (lo x)).map .addsBy4ERd
  | 0xD => some (.incWBy2Rd (reg16Of (lo x)))
  | 0xF => (er0 (lo x)).map .incLBy2ERd
  | _ => none

/-- Byte 2 of the instructions that begin with `1B` (R111). -/
def decode1B (x : Byte) : Option Instr :=
  match (hi x).toNat with
  | 0x0 => (er0 (lo x)).map .subsBy1ERd
  | 0x5 => some (.decWBy1Rd (reg16Of (lo x)))
  | 0x7 => (er0 (lo x)).map .decLBy1ERd
  | 0x8 => (er0 (lo x)).map .subsBy2ERd
  | 0x9 => (er0 (lo x)).map .subsBy4ERd
  | 0xD => some (.decWBy2Rd (reg16Of (lo x)))
  | 0xF => (er0 (lo x)).map .decLBy2ERd
  | _ => none

/-- Byte 2 of the instructions that begin with `10` (R111). -/
def decode10 (x : Byte) : Option Instr :=
  match (hi x).toNat with
  | 0x0 => some (.shllBRd (reg8Of (lo x)))
  | 0x1 => some (.shllWRd (reg16Of (lo x)))
  | 0x3 => (er0 (lo x)).map .shllLERd
  | 0x4 => some (.shllBBy2Rd (reg8Of (lo x)))
  | 0x5 => some (.shllWBy2Rd (reg16Of (lo x)))
  | 0x7 => (er0 (lo x)).map .shllLBy2ERd
  | 0x8 => some (.shalBRd (reg8Of (lo x)))
  | 0x9 => some (.shalWRd (reg16Of (lo x)))
  | 0xB => (er0 (lo x)).map .shalLERd
  | 0xC => some (.shalBBy2Rd (reg8Of (lo x)))
  | 0xD => some (.shalWBy2Rd (reg16Of (lo x)))
  | 0xF => (er0 (lo x)).map .shalLBy2ERd
  | _ => none

/-- Byte 2 of the instructions that begin with `11` (R111). -/
def decode11 (x : Byte) : Option Instr :=
  match (hi x).toNat with
  | 0x0 => some (.shlrBRd (reg8Of (lo x)))
  | 0x1 => some (.shlrWRd (reg16Of (lo x)))
  | 0x3 => (er0 (lo x)).map .shlrLERd
  | 0x4 => some (.shlrBBy2Rd (reg8Of (lo x)))
  | 0x5 => some (.shlrWBy2Rd (reg16Of (lo x)))
  | 0x7 => (er0 (lo x)).map .shlrLBy2ERd
  | 0x8 => some (.sharBRd (reg8Of (lo x)))
  | 0x9 => some (.sharWRd (reg16Of (lo x)))
  | 0xB => (er0 (lo x)).map .sharLERd
  | 0xC => some (.sharBBy2Rd (reg8Of (lo x)))
  | 0xD => some (.sharWBy2Rd (reg16Of (lo x)))
  | 0xF => (er0 (lo x)).map .sharLBy2ERd
  | _ => none

/-- Byte 2 of the instructions that begin with `12` (R111). -/
def decode12 (x : Byte) : Option Instr :=
  match (hi x).toNat with
  | 0x0 => some (.rotxlBRd (reg8Of (lo x)))
  | 0x1 => some (.rotxlWRd (reg16Of (lo x)))
  | 0x3 => (er0 (lo x)).map .rotxlLERd
  | 0x4 => some (.rotxlBBy2Rd (reg8Of (lo x)))
  | 0x5 => some (.rotxlWBy2Rd (reg16Of (lo x)))
  | 0x7 => (er0 (lo x)).map .rotxlLBy2ERd
  | 0x8 => some (.rotlBRd (reg8Of (lo x)))
  | 0x9 => some (.rotlWRd (reg16Of (lo x)))
  | 0xB => (er0 (lo x)).map .rotlLERd
  | 0xC => some (.rotlBBy2Rd (reg8Of (lo x)))
  | 0xD => some (.rotlWBy2Rd (reg16Of (lo x)))
  | 0xF => (er0 (lo x)).map .rotlLBy2ERd
  | _ => none

/-- Byte 2 of the instructions that begin with `13` (R111). -/
def decode13 (x : Byte) : Option Instr :=
  match (hi x).toNat with
  | 0x0 => some (.rotxrBRd (reg8Of (lo x)))
  | 0x1 => some (.rotxrWRd (reg16Of (lo x)))
  | 0x3 => (er0 (lo x)).map .rotxrLERd
  | 0x4 => some (.rotxrBBy2Rd (reg8Of (lo x)))
  | 0x5 => some (.rotxrWBy2Rd (reg16Of (lo x)))
  | 0x7 => (er0 (lo x)).map .rotxrLBy2ERd
  | 0x8 => some (.rotrBRd (reg8Of (lo x)))
  | 0x9 => some (.rotrWRd (reg16Of (lo x)))
  | 0xB => (er0 (lo x)).map .rotrLERd
  | 0xC => some (.rotrBBy2Rd (reg8Of (lo x)))
  | 0xD => some (.rotrWBy2Rd (reg16Of (lo x)))
  | 0xF => (er0 (lo x)).map .rotrLBy2ERd
  | _ => none

/-- Byte 2 of the instructions that begin with `17` (R111). -/
def decode17 (x : Byte) : Option Instr :=
  match (hi x).toNat with
  | 0x0 => some (.notBRd (reg8Of (lo x)))
  | 0x1 => some (.notWRd (reg16Of (lo x)))
  | 0x3 => (er0 (lo x)).map .notLERd
  | 0x5 => some (.extuWRd (reg16Of (lo x)))
  | 0x7 => (er0 (lo x)).map .extuLERd
  | 0x8 => some (.negBRd (reg8Of (lo x)))
  | 0x9 => some (.negWRd (reg16Of (lo x)))
  | 0xB => (er0 (lo x)).map .negLERd
  | 0xD => some (.extsWRd (reg16Of (lo x)))
  | 0xF => (er0 (lo x)).map .extsLERd
  | _ => none

/-- A byte 2 that is `1ers 0erd` for a longword operation, or `0 rd` for the byte operation that shares byte 1 (R111). -/
def longOrByte (long : RegNum → RegNum → Instr) (byte : Reg8 → Instr) (x : Byte) : Option Instr :=
  if topBit (hi x) then (er0 (lo x)).map fun d => long (low3 (hi x)) d
  else if hi x = 0 then some (byte (reg8Of (lo x)))
  else none

/-- Instructions whose first byte is 00 to 0F. -/
def decode0 (al : BitVec 4) (x : Byte) (rest : List Byte) : Option Instr :=
  match al.toNat with
  | 0x0 => if x = 0x00 then some .nop else none
  | 0x1 => decode01 x rest
  | 0x2 => decode02 x
  | 0x3 => decode03 x
  | 0x4 => some (.orcImm8CCR x)
  | 0x5 => some (.xorcImm8CCR x)
  | 0x6 => some (.andcImm8CCR x)
  | 0x7 => some (.ldcBImm8CCR x)
  | 0x8 => some (.addBRsRd (reg8Of (hi x)) (reg8Of (lo x)))
  | 0x9 => some (.addWRsRd (reg16Of (hi x)) (reg16Of (lo x)))
  | 0xA => longOrByte .addLERsERd .incBRd x
  | 0xB => decode0B x
  | 0xC => some (.movBRsRd (reg8Of (hi x)) (reg8Of (lo x)))
  | 0xD => some (.movWRsRd (reg16Of (hi x)) (reg16Of (lo x)))
  | 0xE => some (.addxRsRd (reg8Of (hi x)) (reg8Of (lo x)))
  | _ => longOrByte .movLERsERd .daaRd x

/-- Instructions whose first byte is 10 to 1F. -/
def decode1 (al : BitVec 4) (x : Byte) : Option Instr :=
  match al.toNat with
  | 0x0 => decode10 x
  | 0x1 => decode11 x
  | 0x2 => decode12 x
  | 0x3 => decode13 x
  | 0x4 => some (.orBRsRd (reg8Of (hi x)) (reg8Of (lo x)))
  | 0x5 => some (.xorBRsRd (reg8Of (hi x)) (reg8Of (lo x)))
  | 0x6 => some (.andBRsRd (reg8Of (hi x)) (reg8Of (lo x)))
  | 0x7 => decode17 x
  | 0x8 => some (.subBRsRd (reg8Of (hi x)) (reg8Of (lo x)))
  | 0x9 => some (.subWRsRd (reg16Of (hi x)) (reg16Of (lo x)))
  | 0xA => longOrByte .subLERsERd .decBRd x
  | 0xB => decode1B x
  | 0xC => some (.cmpBRsRd (reg8Of (hi x)) (reg8Of (lo x)))
  | 0xD => some (.cmpWRsRd (reg16Of (hi x)) (reg16Of (lo x)))
  | 0xE => some (.subxRsRd (reg8Of (hi x)) (reg8Of (lo x)))
  | _ => longOrByte .cmpLERsERd .dasRd x

/-- Bcc d:8 by its condition field (R107). -/
def bcc8 (cc : BitVec 4) (d : BitVec 8) : Instr :=
  match cc.toNat with
  | 0x0 => .braD8 d
  | 0x1 => .brnD8 d
  | 0x2 => .bhiD8 d
  | 0x3 => .blsD8 d
  | 0x4 => .bccD8 d
  | 0x5 => .bcsD8 d
  | 0x6 => .bneD8 d
  | 0x7 => .beqD8 d
  | 0x8 => .bvcD8 d
  | 0x9 => .bvsD8 d
  | 0xA => .bplD8 d
  | 0xB => .bmiD8 d
  | 0xC => .bgeD8 d
  | 0xD => .bltD8 d
  | 0xE => .bgtD8 d
  | _ => .bleD8 d

/-- Bcc d:16 by its condition field (R107). -/
def bcc16 (cc : BitVec 4) (d : BitVec 16) : Instr :=
  match cc.toNat with
  | 0x0 => .braD16 d
  | 0x1 => .brnD16 d
  | 0x2 => .bhiD16 d
  | 0x3 => .blsD16 d
  | 0x4 => .bccD16 d
  | 0x5 => .bcsD16 d
  | 0x6 => .bneD16 d
  | 0x7 => .beqD16 d
  | 0x8 => .bvcD16 d
  | 0x9 => .bvsD16 d
  | 0xA => .bplD16 d
  | 0xB => .bmiD16 d
  | 0xC => .bgeD16 d
  | 0xD => .bltD16 d
  | 0xE => .bgtD16 d
  | _ => .bleD16 d

/-- Instructions whose first byte is 50 to 5F. -/
def decode5 (al : BitVec 4) (x : Byte) (rest : List Byte) : Option Instr :=
  match al.toNat with
  | 0x0 => some (.mulxuBRsRd (reg8Of (hi x)) (reg16Of (lo x)))
  | 0x1 => some (.divxuBRsRd (reg8Of (hi x)) (reg16Of (lo x)))
  | 0x2 => (er0 (lo x)).map fun r => .mulxuWRsERd (reg16Of (hi x)) r
  | 0x3 => (er0 (lo x)).map fun r => .divxuWRsERd (reg16Of (hi x)) r
  | 0x4 => if x = 0x70 then some .rts else none
  | 0x5 => some (.bsrD8 x)
  | 0x6 => if x = 0x70 then some .rte else none
  | 0x7 => if x &&& 0xCF = 0 then some (.trapa (x.extractLsb' 4 2)) else none
  | 0x8 => if lo x = 0 then (take16 rest).map fun d => bcc16 (hi x) d else none
  | 0x9 => if lo x = 0 then (er0 (hi x)).map .jmpAtERn else none
  | 0xA => (take16 rest).map fun a => .jmpAa24 (x ++ a)
  | 0xB => some (.jmpMemAa8 x)
  | 0xC => if x = 0x00 then (take16 rest).map .bsrD16 else none
  | 0xD => if lo x = 0 then (er0 (hi x)).map .jsrAtERn else none
  | 0xE => (take16 rest).map fun a => .jsrAa24 (x ++ a)
  | _ => some (.jsrMemAa8 x)

/-- Instructions that begin with `6A` (R111, R112). -/
def decode6A (x : Byte) (rest : List Byte) : Option Instr :=
  match (hi x).toNat with
  | 0x0 => (take16 rest).map fun a => .movBAa16Rd a (reg8Of (lo x))
  | 0x1 => do
    let a ← take16 rest
    match (lo x).toNat with
    | 0x0 => opWord (bitReadAa16 a) (rest.drop 2)
    | 0x8 => opWord (bitWriteAa16 a) (rest.drop 2)
    | _ => none
  | 0x2 => (take32 rest).map fun a => .movBAa32Rd a (reg8Of (lo x))
  | 0x3 => do
    let a ← take32 rest
    match (lo x).toNat with
    | 0x0 => opWord (bitReadAa32 a) (rest.drop 4)
    | 0x8 => opWord (bitWriteAa32 a) (rest.drop 4)
    | _ => none
  | 0x4 => (take16 rest).map fun a => .movfpeAa16Rd a (reg8Of (lo x))
  | 0x8 => (take16 rest).map fun a => .movBRsAa16 (reg8Of (lo x)) a
  | 0xA => (take32 rest).map fun a => .movBRsAa32 (reg8Of (lo x)) a
  | 0xC => (take16 rest).map fun a => .movtpeRsAa16 (reg8Of (lo x)) a
  | _ => none

/-- Instructions that begin with `6B` (R111). -/
def decode6B (x : Byte) (rest : List Byte) : Option Instr :=
  match (hi x).toNat with
  | 0x0 => (take16 rest).map fun a => .movWAa16Rd a (reg16Of (lo x))
  | 0x2 => (take32 rest).map fun a => .movWAa32Rd a (reg16Of (lo x))
  | 0x8 => (take16 rest).map fun a => .movWRsAa16 (reg16Of (lo x)) a
  | 0xA => (take32 rest).map fun a => .movWRsAa32 (reg16Of (lo x)) a
  | _ => none

/-- Instructions whose first byte is 60 to 6F. -/
def decode6 (al : BitVec 4) (x : Byte) (rest : List Byte) : Option Instr :=
  let n := low3 (hi x)
  match al.toNat with
  | 0x0 => some (.bsetRnRd (reg8Of (hi x)) (reg8Of (lo x)))
  | 0x1 => some (.bnotRnRd (reg8Of (hi x)) (reg8Of (lo x)))
  | 0x2 => some (.bclrRnRd (reg8Of (hi x)) (reg8Of (lo x)))
  | 0x3 => some (.btstRnRd (reg8Of (hi x)) (reg8Of (lo x)))
  | 0x4 => some (.orWRsRd (reg16Of (hi x)) (reg16Of (lo x)))
  | 0x5 => some (.xorWRsRd (reg16Of (hi x)) (reg16Of (lo x)))
  | 0x6 => some (.andWRsRd (reg16Of (hi x)) (reg16Of (lo x)))
  | 0x7 => some (byTop (hi x) (.bstImm3Rd n (reg8Of (lo x))) (.bistImm3Rd n (reg8Of (lo x))))
  | 0x8 => some (byTop (hi x) (.movBAtERsRd n (reg8Of (lo x))) (.movBRsAtERd (reg8Of (lo x)) n))
  | 0x9 => some (byTop (hi x) (.movWAtERsRd n (reg16Of (lo x))) (.movWRsAtERd (reg16Of (lo x)) n))
  | 0xA => decode6A x rest
  | 0xB => decode6B x rest
  | 0xC => some (byTop (hi x) (.movBERsIncRd n (reg8Of (lo x))) (.movBRsDecERd (reg8Of (lo x)) n))
  | 0xD =>
    if n = 7 then some (byTop (hi x) (.popWRn (reg16Of (lo x))) (.pushWRn (reg16Of (lo x))))
    else some (byTop (hi x) (.movWERsIncRd n (reg16Of (lo x))) (.movWRsDecERd (reg16Of (lo x)) n))
  | 0xE => do
    let d ← take16 rest
    some (byTop (hi x) (.movBD16ERsRd n d (reg8Of (lo x))) (.movBRsD16ERd (reg8Of (lo x)) n d))
  | _ => do
    let d ← take16 rest
    some (byTop (hi x) (.movWD16ERsRd n d (reg16Of (lo x))) (.movWRsD16ERd (reg16Of (lo x)) n d))

/-- Instructions that begin with `78` (R113). -/
def decode78 (x : Byte) : List Byte → Option Instr
  | 0x6A#8 :: y :: rest => do
    let n ← er0 (hi x)
    let d ← take32 rest
    if lo x ≠ 0 then none
    else
      match (hi y).toNat with
      | 0x2 => some (.movBD32ERsRd n d (reg8Of (lo y)))
      | 0xA => some (.movBRsD32ERd (reg8Of (lo y)) n d)
      | _ => none
  | 0x6B#8 :: y :: rest => do
    let n ← er0 (hi x)
    let d ← take32 rest
    if lo x ≠ 0 then none
    else
      match (hi y).toNat with
      | 0x2 => some (.movWD32ERsRd n d (reg16Of (lo y)))
      | 0xA => some (.movWRsD32ERd (reg16Of (lo y)) n d)
      | _ => none
  | _ => none

/-- The word immediate group `79` (R111). -/
def decode79 (x : Byte) (v : BitVec 16) : Option Instr :=
  match (hi x).toNat with
  | 0x0 => some (.movWImm16Rd v (reg16Of (lo x)))
  | 0x1 => some (.addWImm16Rd v (reg16Of (lo x)))
  | 0x2 => some (.cmpWImm16Rd v (reg16Of (lo x)))
  | 0x3 => some (.subWImm16Rd v (reg16Of (lo x)))
  | 0x4 => some (.orWImm16Rd v (reg16Of (lo x)))
  | 0x5 => some (.xorWImm16Rd v (reg16Of (lo x)))
  | 0x6 => some (.andWImm16Rd v (reg16Of (lo x)))
  | _ => none

/-- The longword immediate group `7A` (R111). -/
def decode7A (x : Byte) (v : BitVec 32) : Option Instr :=
  match (hi x).toNat with
  | 0x0 => (er0 (lo x)).map fun r => .movLImm32ERd v r
  | 0x1 => (er0 (lo x)).map fun r => .addLImm32ERd v r
  | 0x2 => (er0 (lo x)).map fun r => .cmpLImm32ERd v r
  | 0x3 => (er0 (lo x)).map fun r => .subLImm32ERd v r
  | 0x4 => (er0 (lo x)).map fun r => .orLImm32ERd v r
  | 0x5 => (er0 (lo x)).map fun r => .xorLImm32ERd v r
  | 0x6 => (er0 (lo x)).map fun r => .andLImm32ERd v r
  | _ => none

/-- Instructions whose first byte is 70 to 7F. -/
def decode7 (al : BitVec 4) (x : Byte) (rest : List Byte) : Option Instr :=
  let n := low3 (hi x)
  let rd := reg8Of (lo x)
  match al.toNat with
  | 0x0 => (er0 (hi x)).map fun n => .bsetImm3Rd n rd
  | 0x1 => (er0 (hi x)).map fun n => .bnotImm3Rd n rd
  | 0x2 => (er0 (hi x)).map fun n => .bclrImm3Rd n rd
  | 0x3 => (er0 (hi x)).map fun n => .btstImm3Rd n rd
  | 0x4 => some (byTop (hi x) (.borImm3Rd n rd) (.biorImm3Rd n rd))
  | 0x5 => some (byTop (hi x) (.bxorImm3Rd n rd) (.bixorImm3Rd n rd))
  | 0x6 => some (byTop (hi x) (.bandImm3Rd n rd) (.biandImm3Rd n rd))
  | 0x7 => some (byTop (hi x) (.bldImm3Rd n rd) (.bildImm3Rd n rd))
  | 0x8 => decode78 x rest
  | 0x9 => (take16 rest).bind fun v => decode79 x v
  | 0xA => (take32 rest).bind fun v => decode7A x v
  | 0xB =>
    match rest with
    | 0x59#8 :: 0x8F#8 :: _ =>
      if x = 0x5C then some .eepmovB else if x = 0xD4 then some .eepmovW else none
    | _ => none
  | 0xC => if lo x = 0 then (er0 (hi x)).bind fun r => opWord (bitReadAtERd r) rest else none
  | 0xD => if lo x = 0 then (er0 (hi x)).bind fun r => opWord (bitWriteAtERd r) rest else none
  | 0xE => opWord (bitReadAa8 x) rest
  | _ => opWord (bitWriteAa8 x) rest

/-- The instruction that the bytes begin with, in address order; `none` for an undefined encoding (R114) and for fewer bytes
than the instruction has. -/
def decode : List Byte → Option Instr
  | b1 :: x :: rest =>
    match (hi b1).toNat with
    | 0x0 => decode0 (lo b1) x rest
    | 0x1 => decode1 (lo b1) x
    | 0x2 => some (.movBAa8Rd x (reg8Of (lo b1)))
    | 0x3 => some (.movBRsAa8 (reg8Of (lo b1)) x)
    | 0x4 => some (bcc8 (lo b1) x)
    | 0x5 => decode5 (lo b1) x rest
    | 0x6 => decode6 (lo b1) x rest
    | 0x7 => decode7 (lo b1) x rest
    | 0x8 => some (.addBImm8Rd x (reg8Of (lo b1)))
    | 0x9 => some (.addxImm8Rd x (reg8Of (lo b1)))
    | 0xA => some (.cmpBImm8Rd x (reg8Of (lo b1)))
    | 0xB => some (.subxImm8Rd x (reg8Of (lo b1)))
    | 0xC => some (.orBImm8Rd x (reg8Of (lo b1)))
    | 0xD => some (.xorBImm8Rd x (reg8Of (lo b1)))
    | 0xE => some (.andBImm8Rd x (reg8Of (lo b1)))
    | _ => some (.movBImm8Rd x (reg8Of (lo b1)))
  | _ => none

/-! ### The encoder -/

/-- The nibble `0erd` of an address or longword register, or `0IMM` of a bit number (R104, R105). -/
def nib0 (n : Fin 8) : BitVec 4 := 0#1 ++ BitVec.ofFin (w := 3) n

/-- The nibble `1erd` or `1IMM` (R104, R105). -/
def nib1 (n : Fin 8) : BitVec 4 := 1#1 ++ BitVec.ofFin (w := 3) n

/-- The 4-bit field of an 8-bit register (R104). -/
def nib8 : Reg8 → BitVec 4
  | .h n => nib0 n
  | .l n => nib1 n

/-- The 4-bit field of a 16-bit register (R104). -/
def nib16 : Reg16 → BitVec 4
  | .r n => nib0 n
  | .e n => nib1 n

/-- A 16-bit field, most significant byte first (R101). -/
def bytes16 (v : BitVec 16) : List Byte := [v.extractLsb' 8 8, v.extractLsb' 0 8]

/-- A 24-bit field. -/
def bytes24 (v : BitVec 24) : List Byte := [v.extractLsb' 16 8, v.extractLsb' 8 8, v.extractLsb' 0 8]

/-- A 32-bit field. -/
def bytes32 (v : BitVec 32) : List Byte :=
  [v.extractLsb' 24 8, v.extractLsb' 16 8, v.extractLsb' 8 8, v.extractLsb' 0 8]

/-- The bytes of an instruction in address order (R108, opcode table). The don't-care bit of MOV.L ERs,@(d:32,ERd) is written
as 0 (R113; log 33). -/
def encode : Instr → List Byte
  | .movBRsRd rs rd => [0x0C#8, nib (nib8 rs) (nib8 rd)]
  | .movWRsRd rs rd => [0x0D#8, nib (nib16 rs) (nib16 rd)]
  | .movLERsERd ers erd => [0x0F#8, nib (nib1 ers) (nib0 erd)]
  | .movBImm8Rd imm rd => [nib 0xF#4 (nib8 rd), imm]
  | .movWImm16Rd imm rd => [0x79#8, nib 0x0#4 (nib16 rd)] ++ bytes16 imm
  | .movLImm32ERd imm erd => [0x7A#8, nib 0x0#4 (nib0 erd)] ++ bytes32 imm
  | .movBAtERsRd ers rd => [0x68#8, nib (nib0 ers) (nib8 rd)]
  | .movBD16ERsRd ers disp rd => [0x6E#8, nib (nib0 ers) (nib8 rd)] ++ bytes16 disp
  | .movBD32ERsRd ers disp rd => [0x78#8, nib (nib0 ers) 0x0#4, 0x6A#8, nib 0x2#4 (nib8 rd)] ++ bytes32 disp
  | .movBERsIncRd ers rd => [0x6C#8, nib (nib0 ers) (nib8 rd)]
  | .movBAa8Rd abs rd => [nib 0x2#4 (nib8 rd), abs]
  | .movBAa16Rd abs rd => [0x6A#8, nib 0x0#4 (nib8 rd)] ++ bytes16 abs
  | .movBAa32Rd abs rd => [0x6A#8, nib 0x2#4 (nib8 rd)] ++ bytes32 abs
  | .movWAtERsRd ers rd => [0x69#8, nib (nib0 ers) (nib16 rd)]
  | .movWD16ERsRd ers disp rd => [0x6F#8, nib (nib0 ers) (nib16 rd)] ++ bytes16 disp
  | .movWD32ERsRd ers disp rd => [0x78#8, nib (nib0 ers) 0x0#4, 0x6B#8, nib 0x2#4 (nib16 rd)] ++ bytes32 disp
  | .movWERsIncRd ers rd => [0x6D#8, nib (nib0 ers) (nib16 rd)]
  | .movWAa16Rd abs rd => [0x6B#8, nib 0x0#4 (nib16 rd)] ++ bytes16 abs
  | .movWAa32Rd abs rd => [0x6B#8, nib 0x2#4 (nib16 rd)] ++ bytes32 abs
  | .movLAtERsERd ers erd => [0x01#8, 0x00#8, 0x69#8, nib (nib0 ers) (nib0 erd)]
  | .movLD16ERsERd ers disp erd => [0x01#8, 0x00#8, 0x6F#8, nib (nib0 ers) (nib0 erd)] ++ bytes16 disp
  | .movLD32ERsERd ers disp erd =>
    [0x01#8, 0x00#8, 0x78#8, nib (nib0 ers) 0x0#4, 0x6B#8, nib 0x2#4 (nib0 erd)] ++ bytes32 disp
  | .movLERsIncERd ers erd => [0x01#8, 0x00#8, 0x6D#8, nib (nib0 ers) (nib0 erd)]
  | .movLAa16ERd abs erd => [0x01#8, 0x00#8, 0x6B#8, nib 0x0#4 (nib0 erd)] ++ bytes16 abs
  | .movLAa32ERd abs erd => [0x01#8, 0x00#8, 0x6B#8, nib 0x2#4 (nib0 erd)] ++ bytes32 abs
  | .movBRsAtERd rs erd => [0x68#8, nib (nib1 erd) (nib8 rs)]
  | .movBRsD16ERd rs erd disp => [0x6E#8, nib (nib1 erd) (nib8 rs)] ++ bytes16 disp
  | .movBRsD32ERd rs erd disp => [0x78#8, nib (nib0 erd) 0x0#4, 0x6A#8, nib 0xA#4 (nib8 rs)] ++ bytes32 disp
  | .movBRsDecERd rs erd => [0x6C#8, nib (nib1 erd) (nib8 rs)]
  | .movBRsAa8 rs abs => [nib 0x3#4 (nib8 rs), abs]
  | .movBRsAa16 rs abs => [0x6A#8, nib 0x8#4 (nib8 rs)] ++ bytes16 abs
  | .movBRsAa32 rs abs => [0x6A#8, nib 0xA#4 (nib8 rs)] ++ bytes32 abs
  | .movWRsAtERd rs erd => [0x69#8, nib (nib1 erd) (nib16 rs)]
  | .movWRsD16ERd rs erd disp => [0x6F#8, nib (nib1 erd) (nib16 rs)] ++ bytes16 disp
  | .movWRsD32ERd rs erd disp => [0x78#8, nib (nib0 erd) 0x0#4, 0x6B#8, nib 0xA#4 (nib16 rs)] ++ bytes32 disp
  | .movWRsDecERd rs erd => [0x6D#8, nib (nib1 erd) (nib16 rs)]
  | .movWRsAa16 rs abs => [0x6B#8, nib 0x8#4 (nib16 rs)] ++ bytes16 abs
  | .movWRsAa32 rs abs => [0x6B#8, nib 0xA#4 (nib16 rs)] ++ bytes32 abs
  | .movLERsAtERd ers erd => [0x01#8, 0x00#8, 0x69#8, nib (nib1 erd) (nib0 ers)]
  | .movLERsD16ERd ers erd disp => [0x01#8, 0x00#8, 0x6F#8, nib (nib1 erd) (nib0 ers)] ++ bytes16 disp
  | .movLERsD32ERd ers erd disp =>
    [0x01#8, 0x00#8, 0x78#8, nib (nib0 erd) 0x0#4, 0x6B#8, nib 0xA#4 (nib0 ers)] ++ bytes32 disp
  | .movLERsDecERd ers erd => [0x01#8, 0x00#8, 0x6D#8, nib (nib1 erd) (nib0 ers)]
  | .movLERsAa16 ers abs => [0x01#8, 0x00#8, 0x6B#8, nib 0x8#4 (nib0 ers)] ++ bytes16 abs
  | .movLERsAa32 ers abs => [0x01#8, 0x00#8, 0x6B#8, nib 0xA#4 (nib0 ers)] ++ bytes32 abs
  | .popWRn rn => [0x6D#8, nib 0x7#4 (nib16 rn)]
  | .popLERn ern => [0x01#8, 0x00#8, 0x6D#8, nib 0x7#4 (nib0 ern)]
  | .pushWRn rn => [0x6D#8, nib 0xF#4 (nib16 rn)]
  | .pushLERn ern => [0x01#8, 0x00#8, 0x6D#8, nib 0xF#4 (nib0 ern)]
  | .ldmL2 rn => [0x01#8, 0x10#8, 0x6D#8, nib 0x7#4 (nib0 rn)]
  | .ldmL3 rn => [0x01#8, 0x20#8, 0x6D#8, nib 0x7#4 (nib0 rn)]
  | .ldmL4 rn => [0x01#8, 0x30#8, 0x6D#8, nib 0x7#4 (nib0 rn)]
  | .stmL2 rn => [0x01#8, 0x10#8, 0x6D#8, nib 0xF#4 (nib0 rn)]
  | .stmL3 rn => [0x01#8, 0x20#8, 0x6D#8, nib 0xF#4 (nib0 rn)]
  | .stmL4 rn => [0x01#8, 0x30#8, 0x6D#8, nib 0xF#4 (nib0 rn)]
  | .movfpeAa16Rd abs rd => [0x6A#8, nib 0x4#4 (nib8 rd)] ++ bytes16 abs
  | .movtpeRsAa16 rs abs => [0x6A#8, nib 0xC#4 (nib8 rs)] ++ bytes16 abs
  | .addBImm8Rd imm rd => [nib 0x8#4 (nib8 rd), imm]
  | .addBRsRd rs rd => [0x08#8, nib (nib8 rs) (nib8 rd)]
  | .addWImm16Rd imm rd => [0x79#8, nib 0x1#4 (nib16 rd)] ++ bytes16 imm
  | .addWRsRd rs rd => [0x09#8, nib (nib16 rs) (nib16 rd)]
  | .addLImm32ERd imm erd => [0x7A#8, nib 0x1#4 (nib0 erd)] ++ bytes32 imm
  | .addLERsERd ers erd => [0x0A#8, nib (nib1 ers) (nib0 erd)]
  | .addsBy1ERd erd => [0x0B#8, nib 0x0#4 (nib0 erd)]
  | .addsBy2ERd erd => [0x0B#8, nib 0x8#4 (nib0 erd)]
  | .addsBy4ERd erd => [0x0B#8, nib 0x9#4 (nib0 erd)]
  | .addxImm8Rd imm rd => [nib 0x9#4 (nib8 rd), imm]
  | .addxRsRd rs rd => [0x0E#8, nib (nib8 rs) (nib8 rd)]
  | .subBRsRd rs rd => [0x18#8, nib (nib8 rs) (nib8 rd)]
  | .subWImm16Rd imm rd => [0x79#8, nib 0x3#4 (nib16 rd)] ++ bytes16 imm
  | .subWRsRd rs rd => [0x19#8, nib (nib16 rs) (nib16 rd)]
  | .subLImm32ERd imm erd => [0x7A#8, nib 0x3#4 (nib0 erd)] ++ bytes32 imm
  | .subLERsERd ers erd => [0x1A#8, nib (nib1 ers) (nib0 erd)]
  | .subsBy1ERd erd => [0x1B#8, nib 0x0#4 (nib0 erd)]
  | .subsBy2ERd erd => [0x1B#8, nib 0x8#4 (nib0 erd)]
  | .subsBy4ERd erd => [0x1B#8, nib 0x9#4 (nib0 erd)]
  | .subxImm8Rd imm rd => [nib 0xB#4 (nib8 rd), imm]
  | .subxRsRd rs rd => [0x1E#8, nib (nib8 rs) (nib8 rd)]
  | .cmpBImm8Rd imm rd => [nib 0xA#4 (nib8 rd), imm]
  | .cmpBRsRd rs rd => [0x1C#8, nib (nib8 rs) (nib8 rd)]
  | .cmpWImm16Rd imm rd => [0x79#8, nib 0x2#4 (nib16 rd)] ++ bytes16 imm
  | .cmpWRsRd rs rd => [0x1D#8, nib (nib16 rs) (nib16 rd)]
  | .cmpLImm32ERd imm erd => [0x7A#8, nib 0x2#4 (nib0 erd)] ++ bytes32 imm
  | .cmpLERsERd ers erd => [0x1F#8, nib (nib1 ers) (nib0 erd)]
  | .incBRd rd => [0x0A#8, nib 0x0#4 (nib8 rd)]
  | .incWBy1Rd rd => [0x0B#8, nib 0x5#4 (nib16 rd)]
  | .incWBy2Rd rd => [0x0B#8, nib 0xD#4 (nib16 rd)]
  | .incLBy1ERd erd => [0x0B#8, nib 0x7#4 (nib0 erd)]
  | .incLBy2ERd erd => [0x0B#8, nib 0xF#4 (nib0 erd)]
  | .decBRd rd => [0x1A#8, nib 0x0#4 (nib8 rd)]
  | .decWBy1Rd rd => [0x1B#8, nib 0x5#4 (nib16 rd)]
  | .decWBy2Rd rd => [0x1B#8, nib 0xD#4 (nib16 rd)]
  | .decLBy1ERd erd => [0x1B#8, nib 0x7#4 (nib0 erd)]
  | .decLBy2ERd erd => [0x1B#8, nib 0xF#4 (nib0 erd)]
  | .negBRd rd => [0x17#8, nib 0x8#4 (nib8 rd)]
  | .negWRd rd => [0x17#8, nib 0x9#4 (nib16 rd)]
  | .negLERd erd => [0x17#8, nib 0xB#4 (nib0 erd)]
  | .daaRd rd => [0x0F#8, nib 0x0#4 (nib8 rd)]
  | .dasRd rd => [0x1F#8, nib 0x0#4 (nib8 rd)]
  | .mulxuBRsRd rs rd => [0x50#8, nib (nib8 rs) (nib16 rd)]
  | .mulxuWRsERd rs erd => [0x52#8, nib (nib16 rs) (nib0 erd)]
  | .mulxsBRsRd rs rd => [0x01#8, 0xC0#8, 0x50#8, nib (nib8 rs) (nib16 rd)]
  | .mulxsWRsERd rs erd => [0x01#8, 0xC0#8, 0x52#8, nib (nib16 rs) (nib0 erd)]
  | .divxuBRsRd rs rd => [0x51#8, nib (nib8 rs) (nib16 rd)]
  | .divxuWRsERd rs erd => [0x53#8, nib (nib16 rs) (nib0 erd)]
  | .divxsBRsRd rs rd => [0x01#8, 0xD0#8, 0x51#8, nib (nib8 rs) (nib16 rd)]
  | .divxsWRsERd rs erd => [0x01#8, 0xD0#8, 0x53#8, nib (nib16 rs) (nib0 erd)]
  | .extuWRd rd => [0x17#8, nib 0x5#4 (nib16 rd)]
  | .extuLERd erd => [0x17#8, nib 0x7#4 (nib0 erd)]
  | .extsWRd rd => [0x17#8, nib 0xD#4 (nib16 rd)]
  | .extsLERd erd => [0x17#8, nib 0xF#4 (nib0 erd)]
  | .tasAtERd erd => [0x01#8, 0xE0#8, 0x7B#8, nib (nib0 erd) 0xC#4]
  | .macERnIncERmInc ern erm => [0x01#8, 0x60#8, 0x6D#8, nib (nib0 ern) (nib0 erm)]
  | .clrmac => [0x01#8, 0xA0#8]
  | .ldmacERsMACH ers => [0x03#8, nib 0x2#4 (nib0 ers)]
  | .ldmacERsMACL ers => [0x03#8, nib 0x3#4 (nib0 ers)]
  | .stmacMACHERd erd => [0x02#8, nib 0x2#4 (nib0 erd)]
  | .stmacMACLERd erd => [0x02#8, nib 0x3#4 (nib0 erd)]
  | .andBImm8Rd imm rd => [nib 0xE#4 (nib8 rd), imm]
  | .andBRsRd rs rd => [0x16#8, nib (nib8 rs) (nib8 rd)]
  | .andWImm16Rd imm rd => [0x79#8, nib 0x6#4 (nib16 rd)] ++ bytes16 imm
  | .andWRsRd rs rd => [0x66#8, nib (nib16 rs) (nib16 rd)]
  | .andLImm32ERd imm erd => [0x7A#8, nib 0x6#4 (nib0 erd)] ++ bytes32 imm
  | .andLERsERd ers erd => [0x01#8, 0xF0#8, 0x66#8, nib (nib0 ers) (nib0 erd)]
  | .orBImm8Rd imm rd => [nib 0xC#4 (nib8 rd), imm]
  | .orBRsRd rs rd => [0x14#8, nib (nib8 rs) (nib8 rd)]
  | .orWImm16Rd imm rd => [0x79#8, nib 0x4#4 (nib16 rd)] ++ bytes16 imm
  | .orWRsRd rs rd => [0x64#8, nib (nib16 rs) (nib16 rd)]
  | .orLImm32ERd imm erd => [0x7A#8, nib 0x4#4 (nib0 erd)] ++ bytes32 imm
  | .orLERsERd ers erd => [0x01#8, 0xF0#8, 0x64#8, nib (nib0 ers) (nib0 erd)]
  | .xorBImm8Rd imm rd => [nib 0xD#4 (nib8 rd), imm]
  | .xorBRsRd rs rd => [0x15#8, nib (nib8 rs) (nib8 rd)]
  | .xorWImm16Rd imm rd => [0x79#8, nib 0x5#4 (nib16 rd)] ++ bytes16 imm
  | .xorWRsRd rs rd => [0x65#8, nib (nib16 rs) (nib16 rd)]
  | .xorLImm32ERd imm erd => [0x7A#8, nib 0x5#4 (nib0 erd)] ++ bytes32 imm
  | .xorLERsERd ers erd => [0x01#8, 0xF0#8, 0x65#8, nib (nib0 ers) (nib0 erd)]
  | .notBRd rd => [0x17#8, nib 0x0#4 (nib8 rd)]
  | .notWRd rd => [0x17#8, nib 0x1#4 (nib16 rd)]
  | .notLERd erd => [0x17#8, nib 0x3#4 (nib0 erd)]
  | .shalBRd rd => [0x10#8, nib 0x8#4 (nib8 rd)]
  | .shalBBy2Rd rd => [0x10#8, nib 0xC#4 (nib8 rd)]
  | .shalWRd rd => [0x10#8, nib 0x9#4 (nib16 rd)]
  | .shalWBy2Rd rd => [0x10#8, nib 0xD#4 (nib16 rd)]
  | .shalLERd erd => [0x10#8, nib 0xB#4 (nib0 erd)]
  | .shalLBy2ERd erd => [0x10#8, nib 0xF#4 (nib0 erd)]
  | .sharBRd rd => [0x11#8, nib 0x8#4 (nib8 rd)]
  | .sharBBy2Rd rd => [0x11#8, nib 0xC#4 (nib8 rd)]
  | .sharWRd rd => [0x11#8, nib 0x9#4 (nib16 rd)]
  | .sharWBy2Rd rd => [0x11#8, nib 0xD#4 (nib16 rd)]
  | .sharLERd erd => [0x11#8, nib 0xB#4 (nib0 erd)]
  | .sharLBy2ERd erd => [0x11#8, nib 0xF#4 (nib0 erd)]
  | .shllBRd rd => [0x10#8, nib 0x0#4 (nib8 rd)]
  | .shllBBy2Rd rd => [0x10#8, nib 0x4#4 (nib8 rd)]
  | .shllWRd rd => [0x10#8, nib 0x1#4 (nib16 rd)]
  | .shllWBy2Rd rd => [0x10#8, nib 0x5#4 (nib16 rd)]
  | .shllLERd erd => [0x10#8, nib 0x3#4 (nib0 erd)]
  | .shllLBy2ERd erd => [0x10#8, nib 0x7#4 (nib0 erd)]
  | .shlrBRd rd => [0x11#8, nib 0x0#4 (nib8 rd)]
  | .shlrBBy2Rd rd => [0x11#8, nib 0x4#4 (nib8 rd)]
  | .shlrWRd rd => [0x11#8, nib 0x1#4 (nib16 rd)]
  | .shlrWBy2Rd rd => [0x11#8, nib 0x5#4 (nib16 rd)]
  | .shlrLERd erd => [0x11#8, nib 0x3#4 (nib0 erd)]
  | .shlrLBy2ERd erd => [0x11#8, nib 0x7#4 (nib0 erd)]
  | .rotlBRd rd => [0x12#8, nib 0x8#4 (nib8 rd)]
  | .rotlBBy2Rd rd => [0x12#8, nib 0xC#4 (nib8 rd)]
  | .rotlWRd rd => [0x12#8, nib 0x9#4 (nib16 rd)]
  | .rotlWBy2Rd rd => [0x12#8, nib 0xD#4 (nib16 rd)]
  | .rotlLERd erd => [0x12#8, nib 0xB#4 (nib0 erd)]
  | .rotlLBy2ERd erd => [0x12#8, nib 0xF#4 (nib0 erd)]
  | .rotrBRd rd => [0x13#8, nib 0x8#4 (nib8 rd)]
  | .rotrBBy2Rd rd => [0x13#8, nib 0xC#4 (nib8 rd)]
  | .rotrWRd rd => [0x13#8, nib 0x9#4 (nib16 rd)]
  | .rotrWBy2Rd rd => [0x13#8, nib 0xD#4 (nib16 rd)]
  | .rotrLERd erd => [0x13#8, nib 0xB#4 (nib0 erd)]
  | .rotrLBy2ERd erd => [0x13#8, nib 0xF#4 (nib0 erd)]
  | .rotxlBRd rd => [0x12#8, nib 0x0#4 (nib8 rd)]
  | .rotxlBBy2Rd rd => [0x12#8, nib 0x4#4 (nib8 rd)]
  | .rotxlWRd rd => [0x12#8, nib 0x1#4 (nib16 rd)]
  | .rotxlWBy2Rd rd => [0x12#8, nib 0x5#4 (nib16 rd)]
  | .rotxlLERd erd => [0x12#8, nib 0x3#4 (nib0 erd)]
  | .rotxlLBy2ERd erd => [0x12#8, nib 0x7#4 (nib0 erd)]
  | .rotxrBRd rd => [0x13#8, nib 0x0#4 (nib8 rd)]
  | .rotxrBBy2Rd rd => [0x13#8, nib 0x4#4 (nib8 rd)]
  | .rotxrWRd rd => [0x13#8, nib 0x1#4 (nib16 rd)]
  | .rotxrWBy2Rd rd => [0x13#8, nib 0x5#4 (nib16 rd)]
  | .rotxrLERd erd => [0x13#8, nib 0x3#4 (nib0 erd)]
  | .rotxrLBy2ERd erd => [0x13#8, nib 0x7#4 (nib0 erd)]
  | .bandImm3Rd n rd => [0x76#8, nib (nib0 n) (nib8 rd)]
  | .bandImm3AtERd n erd => [0x7C#8, nib (nib0 erd) 0x0#4, 0x76#8, nib (nib0 n) 0x0#4]
  | .bandImm3Aa8 n abs => [0x7E#8, abs, 0x76#8, nib (nib0 n) 0x0#4]
  | .bandImm3Aa16 n abs => [0x6A#8, 0x10#8] ++ bytes16 abs ++ [0x76#8, nib (nib0 n) 0x0#4]
  | .bandImm3Aa32 n abs => [0x6A#8, 0x30#8] ++ bytes32 abs ++ [0x76#8, nib (nib0 n) 0x0#4]
  | .bclrImm3Rd n rd => [0x72#8, nib (nib0 n) (nib8 rd)]
  | .bclrImm3AtERd n erd => [0x7D#8, nib (nib0 erd) 0x0#4, 0x72#8, nib (nib0 n) 0x0#4]
  | .bclrImm3Aa8 n abs => [0x7F#8, abs, 0x72#8, nib (nib0 n) 0x0#4]
  | .bclrImm3Aa16 n abs => [0x6A#8, 0x18#8] ++ bytes16 abs ++ [0x72#8, nib (nib0 n) 0x0#4]
  | .bclrImm3Aa32 n abs => [0x6A#8, 0x38#8] ++ bytes32 abs ++ [0x72#8, nib (nib0 n) 0x0#4]
  | .bclrRnRd rn rd => [0x62#8, nib (nib8 rn) (nib8 rd)]
  | .bclrRnAtERd rn erd => [0x7D#8, nib (nib0 erd) 0x0#4, 0x62#8, nib (nib8 rn) 0x0#4]
  | .bclrRnAa8 rn abs => [0x7F#8, abs, 0x62#8, nib (nib8 rn) 0x0#4]
  | .bclrRnAa16 rn abs => [0x6A#8, 0x18#8] ++ bytes16 abs ++ [0x62#8, nib (nib8 rn) 0x0#4]
  | .bclrRnAa32 rn abs => [0x6A#8, 0x38#8] ++ bytes32 abs ++ [0x62#8, nib (nib8 rn) 0x0#4]
  | .biandImm3Rd n rd => [0x76#8, nib (nib1 n) (nib8 rd)]
  | .biandImm3AtERd n erd => [0x7C#8, nib (nib0 erd) 0x0#4, 0x76#8, nib (nib1 n) 0x0#4]
  | .biandImm3Aa8 n abs => [0x7E#8, abs, 0x76#8, nib (nib1 n) 0x0#4]
  | .biandImm3Aa16 n abs => [0x6A#8, 0x10#8] ++ bytes16 abs ++ [0x76#8, nib (nib1 n) 0x0#4]
  | .biandImm3Aa32 n abs => [0x6A#8, 0x30#8] ++ bytes32 abs ++ [0x76#8, nib (nib1 n) 0x0#4]
  | .bildImm3Rd n rd => [0x77#8, nib (nib1 n) (nib8 rd)]
  | .bildImm3AtERd n erd => [0x7C#8, nib (nib0 erd) 0x0#4, 0x77#8, nib (nib1 n) 0x0#4]
  | .bildImm3Aa8 n abs => [0x7E#8, abs, 0x77#8, nib (nib1 n) 0x0#4]
  | .bildImm3Aa16 n abs => [0x6A#8, 0x10#8] ++ bytes16 abs ++ [0x77#8, nib (nib1 n) 0x0#4]
  | .bildImm3Aa32 n abs => [0x6A#8, 0x30#8] ++ bytes32 abs ++ [0x77#8, nib (nib1 n) 0x0#4]
  | .biorImm3Rd n rd => [0x74#8, nib (nib1 n) (nib8 rd)]
  | .biorImm3AtERd n erd => [0x7C#8, nib (nib0 erd) 0x0#4, 0x74#8, nib (nib1 n) 0x0#4]
  | .biorImm3Aa8 n abs => [0x7E#8, abs, 0x74#8, nib (nib1 n) 0x0#4]
  | .biorImm3Aa16 n abs => [0x6A#8, 0x10#8] ++ bytes16 abs ++ [0x74#8, nib (nib1 n) 0x0#4]
  | .biorImm3Aa32 n abs => [0x6A#8, 0x30#8] ++ bytes32 abs ++ [0x74#8, nib (nib1 n) 0x0#4]
  | .bistImm3Rd n rd => [0x67#8, nib (nib1 n) (nib8 rd)]
  | .bistImm3AtERd n erd => [0x7D#8, nib (nib0 erd) 0x0#4, 0x67#8, nib (nib1 n) 0x0#4]
  | .bistImm3Aa8 n abs => [0x7F#8, abs, 0x67#8, nib (nib1 n) 0x0#4]
  | .bistImm3Aa16 n abs => [0x6A#8, 0x18#8] ++ bytes16 abs ++ [0x67#8, nib (nib1 n) 0x0#4]
  | .bistImm3Aa32 n abs => [0x6A#8, 0x38#8] ++ bytes32 abs ++ [0x67#8, nib (nib1 n) 0x0#4]
  | .bixorImm3Rd n rd => [0x75#8, nib (nib1 n) (nib8 rd)]
  | .bixorImm3AtERd n erd => [0x7C#8, nib (nib0 erd) 0x0#4, 0x75#8, nib (nib1 n) 0x0#4]
  | .bixorImm3Aa8 n abs => [0x7E#8, abs, 0x75#8, nib (nib1 n) 0x0#4]
  | .bixorImm3Aa16 n abs => [0x6A#8, 0x10#8] ++ bytes16 abs ++ [0x75#8, nib (nib1 n) 0x0#4]
  | .bixorImm3Aa32 n abs => [0x6A#8, 0x30#8] ++ bytes32 abs ++ [0x75#8, nib (nib1 n) 0x0#4]
  | .bldImm3Rd n rd => [0x77#8, nib (nib0 n) (nib8 rd)]
  | .bldImm3AtERd n erd => [0x7C#8, nib (nib0 erd) 0x0#4, 0x77#8, nib (nib0 n) 0x0#4]
  | .bldImm3Aa8 n abs => [0x7E#8, abs, 0x77#8, nib (nib0 n) 0x0#4]
  | .bldImm3Aa16 n abs => [0x6A#8, 0x10#8] ++ bytes16 abs ++ [0x77#8, nib (nib0 n) 0x0#4]
  | .bldImm3Aa32 n abs => [0x6A#8, 0x30#8] ++ bytes32 abs ++ [0x77#8, nib (nib0 n) 0x0#4]
  | .bnotImm3Rd n rd => [0x71#8, nib (nib0 n) (nib8 rd)]
  | .bnotImm3AtERd n erd => [0x7D#8, nib (nib0 erd) 0x0#4, 0x71#8, nib (nib0 n) 0x0#4]
  | .bnotImm3Aa8 n abs => [0x7F#8, abs, 0x71#8, nib (nib0 n) 0x0#4]
  | .bnotImm3Aa16 n abs => [0x6A#8, 0x18#8] ++ bytes16 abs ++ [0x71#8, nib (nib0 n) 0x0#4]
  | .bnotImm3Aa32 n abs => [0x6A#8, 0x38#8] ++ bytes32 abs ++ [0x71#8, nib (nib0 n) 0x0#4]
  | .bnotRnRd rn rd => [0x61#8, nib (nib8 rn) (nib8 rd)]
  | .bnotRnAtERd rn erd => [0x7D#8, nib (nib0 erd) 0x0#4, 0x61#8, nib (nib8 rn) 0x0#4]
  | .bnotRnAa8 rn abs => [0x7F#8, abs, 0x61#8, nib (nib8 rn) 0x0#4]
  | .bnotRnAa16 rn abs => [0x6A#8, 0x18#8] ++ bytes16 abs ++ [0x61#8, nib (nib8 rn) 0x0#4]
  | .bnotRnAa32 rn abs => [0x6A#8, 0x38#8] ++ bytes32 abs ++ [0x61#8, nib (nib8 rn) 0x0#4]
  | .borImm3Rd n rd => [0x74#8, nib (nib0 n) (nib8 rd)]
  | .borImm3AtERd n erd => [0x7C#8, nib (nib0 erd) 0x0#4, 0x74#8, nib (nib0 n) 0x0#4]
  | .borImm3Aa8 n abs => [0x7E#8, abs, 0x74#8, nib (nib0 n) 0x0#4]
  | .borImm3Aa16 n abs => [0x6A#8, 0x10#8] ++ bytes16 abs ++ [0x74#8, nib (nib0 n) 0x0#4]
  | .borImm3Aa32 n abs => [0x6A#8, 0x30#8] ++ bytes32 abs ++ [0x74#8, nib (nib0 n) 0x0#4]
  | .bsetImm3Rd n rd => [0x70#8, nib (nib0 n) (nib8 rd)]
  | .bsetImm3AtERd n erd => [0x7D#8, nib (nib0 erd) 0x0#4, 0x70#8, nib (nib0 n) 0x0#4]
  | .bsetImm3Aa8 n abs => [0x7F#8, abs, 0x70#8, nib (nib0 n) 0x0#4]
  | .bsetImm3Aa16 n abs => [0x6A#8, 0x18#8] ++ bytes16 abs ++ [0x70#8, nib (nib0 n) 0x0#4]
  | .bsetImm3Aa32 n abs => [0x6A#8, 0x38#8] ++ bytes32 abs ++ [0x70#8, nib (nib0 n) 0x0#4]
  | .bsetRnRd rn rd => [0x60#8, nib (nib8 rn) (nib8 rd)]
  | .bsetRnAtERd rn erd => [0x7D#8, nib (nib0 erd) 0x0#4, 0x60#8, nib (nib8 rn) 0x0#4]
  | .bsetRnAa8 rn abs => [0x7F#8, abs, 0x60#8, nib (nib8 rn) 0x0#4]
  | .bsetRnAa16 rn abs => [0x6A#8, 0x18#8] ++ bytes16 abs ++ [0x60#8, nib (nib8 rn) 0x0#4]
  | .bsetRnAa32 rn abs => [0x6A#8, 0x38#8] ++ bytes32 abs ++ [0x60#8, nib (nib8 rn) 0x0#4]
  | .bstImm3Rd n rd => [0x67#8, nib (nib0 n) (nib8 rd)]
  | .bstImm3AtERd n erd => [0x7D#8, nib (nib0 erd) 0x0#4, 0x67#8, nib (nib0 n) 0x0#4]
  | .bstImm3Aa8 n abs => [0x7F#8, abs, 0x67#8, nib (nib0 n) 0x0#4]
  | .bstImm3Aa16 n abs => [0x6A#8, 0x18#8] ++ bytes16 abs ++ [0x67#8, nib (nib0 n) 0x0#4]
  | .bstImm3Aa32 n abs => [0x6A#8, 0x38#8] ++ bytes32 abs ++ [0x67#8, nib (nib0 n) 0x0#4]
  | .btstImm3Rd n rd => [0x73#8, nib (nib0 n) (nib8 rd)]
  | .btstImm3AtERd n erd => [0x7C#8, nib (nib0 erd) 0x0#4, 0x73#8, nib (nib0 n) 0x0#4]
  | .btstImm3Aa8 n abs => [0x7E#8, abs, 0x73#8, nib (nib0 n) 0x0#4]
  | .btstImm3Aa16 n abs => [0x6A#8, 0x10#8] ++ bytes16 abs ++ [0x73#8, nib (nib0 n) 0x0#4]
  | .btstImm3Aa32 n abs => [0x6A#8, 0x30#8] ++ bytes32 abs ++ [0x73#8, nib (nib0 n) 0x0#4]
  | .btstRnRd rn rd => [0x63#8, nib (nib8 rn) (nib8 rd)]
  | .btstRnAtERd rn erd => [0x7C#8, nib (nib0 erd) 0x0#4, 0x63#8, nib (nib8 rn) 0x0#4]
  | .btstRnAa8 rn abs => [0x7E#8, abs, 0x63#8, nib (nib8 rn) 0x0#4]
  | .btstRnAa16 rn abs => [0x6A#8, 0x10#8] ++ bytes16 abs ++ [0x63#8, nib (nib8 rn) 0x0#4]
  | .btstRnAa32 rn abs => [0x6A#8, 0x30#8] ++ bytes32 abs ++ [0x63#8, nib (nib8 rn) 0x0#4]
  | .bxorImm3Rd n rd => [0x75#8, nib (nib0 n) (nib8 rd)]
  | .bxorImm3AtERd n erd => [0x7C#8, nib (nib0 erd) 0x0#4, 0x75#8, nib (nib0 n) 0x0#4]
  | .bxorImm3Aa8 n abs => [0x7E#8, abs, 0x75#8, nib (nib0 n) 0x0#4]
  | .bxorImm3Aa16 n abs => [0x6A#8, 0x10#8] ++ bytes16 abs ++ [0x75#8, nib (nib0 n) 0x0#4]
  | .bxorImm3Aa32 n abs => [0x6A#8, 0x30#8] ++ bytes32 abs ++ [0x75#8, nib (nib0 n) 0x0#4]
  | .braD8 disp => [0x40#8, disp]
  | .braD16 disp => [0x58#8, 0x00#8] ++ bytes16 disp
  | .brnD8 disp => [0x41#8, disp]
  | .brnD16 disp => [0x58#8, 0x10#8] ++ bytes16 disp
  | .bhiD8 disp => [0x42#8, disp]
  | .bhiD16 disp => [0x58#8, 0x20#8] ++ bytes16 disp
  | .blsD8 disp => [0x43#8, disp]
  | .blsD16 disp => [0x58#8, 0x30#8] ++ bytes16 disp
  | .bccD8 disp => [0x44#8, disp]
  | .bccD16 disp => [0x58#8, 0x40#8] ++ bytes16 disp
  | .bcsD8 disp => [0x45#8, disp]
  | .bcsD16 disp => [0x58#8, 0x50#8] ++ bytes16 disp
  | .bneD8 disp => [0x46#8, disp]
  | .bneD16 disp => [0x58#8, 0x60#8] ++ bytes16 disp
  | .beqD8 disp => [0x47#8, disp]
  | .beqD16 disp => [0x58#8, 0x70#8] ++ bytes16 disp
  | .bvcD8 disp => [0x48#8, disp]
  | .bvcD16 disp => [0x58#8, 0x80#8] ++ bytes16 disp
  | .bvsD8 disp => [0x49#8, disp]
  | .bvsD16 disp => [0x58#8, 0x90#8] ++ bytes16 disp
  | .bplD8 disp => [0x4A#8, disp]
  | .bplD16 disp => [0x58#8, 0xA0#8] ++ bytes16 disp
  | .bmiD8 disp => [0x4B#8, disp]
  | .bmiD16 disp => [0x58#8, 0xB0#8] ++ bytes16 disp
  | .bgeD8 disp => [0x4C#8, disp]
  | .bgeD16 disp => [0x58#8, 0xC0#8] ++ bytes16 disp
  | .bltD8 disp => [0x4D#8, disp]
  | .bltD16 disp => [0x58#8, 0xD0#8] ++ bytes16 disp
  | .bgtD8 disp => [0x4E#8, disp]
  | .bgtD16 disp => [0x58#8, 0xE0#8] ++ bytes16 disp
  | .bleD8 disp => [0x4F#8, disp]
  | .bleD16 disp => [0x58#8, 0xF0#8] ++ bytes16 disp
  | .jmpAtERn ern => [0x59#8, nib (nib0 ern) 0x0#4]
  | .jmpAa24 abs => [0x5A#8] ++ bytes24 abs
  | .jmpMemAa8 abs => [0x5B#8, abs]
  | .bsrD8 disp => [0x55#8, disp]
  | .bsrD16 disp => [0x5C#8, 0x00#8] ++ bytes16 disp
  | .jsrAtERn ern => [0x5D#8, nib (nib0 ern) 0x0#4]
  | .jsrAa24 abs => [0x5E#8] ++ bytes24 abs
  | .jsrMemAa8 abs => [0x5F#8, abs]
  | .rts => [0x54#8, 0x70#8]
  | .trapa imm => [0x57#8, nib (0#2 ++ imm) 0x0#4]
  | .rte => [0x56#8, 0x70#8]
  | .sleep => [0x01#8, 0x80#8]
  | .nop => [0x00#8, 0x00#8]
  | .ldcBImm8CCR imm => [0x07#8, imm]
  | .ldcBImm8EXR imm => [0x01#8, 0x41#8, 0x07#8, imm]
  | .ldcBRsCCR rs => [0x03#8, nib 0x0#4 (nib8 rs)]
  | .ldcBRsEXR rs => [0x03#8, nib 0x1#4 (nib8 rs)]
  | .ldcWAtERsCCR ers => [0x01#8, 0x40#8, 0x69#8, nib (nib0 ers) 0x0#4]
  | .ldcWD16ERsCCR ers disp => [0x01#8, 0x40#8, 0x6F#8, nib (nib0 ers) 0x0#4] ++ bytes16 disp
  | .ldcWD32ERsCCR ers disp => [0x01#8, 0x40#8, 0x78#8, nib (nib0 ers) 0x0#4, 0x6B#8, 0x20#8] ++ bytes32 disp
  | .ldcWERsIncCCR ers => [0x01#8, 0x40#8, 0x6D#8, nib (nib0 ers) 0x0#4]
  | .ldcWAa16CCR abs => [0x01#8, 0x40#8, 0x6B#8, 0x00#8] ++ bytes16 abs
  | .ldcWAa32CCR abs => [0x01#8, 0x40#8, 0x6B#8, 0x20#8] ++ bytes32 abs
  | .ldcWAtERsEXR ers => [0x01#8, 0x41#8, 0x69#8, nib (nib0 ers) 0x0#4]
  | .ldcWD16ERsEXR ers disp => [0x01#8, 0x41#8, 0x6F#8, nib (nib0 ers) 0x0#4] ++ bytes16 disp
  | .ldcWD32ERsEXR ers disp => [0x01#8, 0x41#8, 0x78#8, nib (nib0 ers) 0x0#4, 0x6B#8, 0x20#8] ++ bytes32 disp
  | .ldcWERsIncEXR ers => [0x01#8, 0x41#8, 0x6D#8, nib (nib0 ers) 0x0#4]
  | .ldcWAa16EXR abs => [0x01#8, 0x41#8, 0x6B#8, 0x00#8] ++ bytes16 abs
  | .ldcWAa32EXR abs => [0x01#8, 0x41#8, 0x6B#8, 0x20#8] ++ bytes32 abs
  | .stcBCCRRd rd => [0x02#8, nib 0x0#4 (nib8 rd)]
  | .stcBEXRRd rd => [0x02#8, nib 0x1#4 (nib8 rd)]
  | .stcWCCRAtERd erd => [0x01#8, 0x40#8, 0x69#8, nib (nib1 erd) 0x0#4]
  | .stcWCCRD16ERd erd disp => [0x01#8, 0x40#8, 0x6F#8, nib (nib1 erd) 0x0#4] ++ bytes16 disp
  | .stcWCCRD32ERd erd disp => [0x01#8, 0x40#8, 0x78#8, nib (nib0 erd) 0x0#4, 0x6B#8, 0xA0#8] ++ bytes32 disp
  | .stcWCCRDecERd erd => [0x01#8, 0x40#8, 0x6D#8, nib (nib1 erd) 0x0#4]
  | .stcWCCRAa16 abs => [0x01#8, 0x40#8, 0x6B#8, 0x80#8] ++ bytes16 abs
  | .stcWCCRAa32 abs => [0x01#8, 0x40#8, 0x6B#8, 0xA0#8] ++ bytes32 abs
  | .stcWEXRAtERd erd => [0x01#8, 0x41#8, 0x69#8, nib (nib1 erd) 0x0#4]
  | .stcWEXRD16ERd erd disp => [0x01#8, 0x41#8, 0x6F#8, nib (nib1 erd) 0x0#4] ++ bytes16 disp
  | .stcWEXRD32ERd erd disp => [0x01#8, 0x41#8, 0x78#8, nib (nib0 erd) 0x0#4, 0x6B#8, 0xA0#8] ++ bytes32 disp
  | .stcWEXRDecERd erd => [0x01#8, 0x41#8, 0x6D#8, nib (nib1 erd) 0x0#4]
  | .stcWEXRAa16 abs => [0x01#8, 0x41#8, 0x6B#8, 0x80#8] ++ bytes16 abs
  | .stcWEXRAa32 abs => [0x01#8, 0x41#8, 0x6B#8, 0xA0#8] ++ bytes32 abs
  | .andcImm8CCR imm => [0x06#8, imm]
  | .andcImm8EXR imm => [0x01#8, 0x41#8, 0x06#8, imm]
  | .orcImm8CCR imm => [0x04#8, imm]
  | .orcImm8EXR imm => [0x01#8, 0x41#8, 0x04#8, imm]
  | .xorcImm8CCR imm => [0x05#8, imm]
  | .xorcImm8EXR imm => [0x01#8, 0x41#8, 0x05#8, imm]
  | .eepmovB => [0x7B#8, 0x5C#8, 0x59#8, 0x8F#8]
  | .eepmovW => [0x7B#8, 0xD4#8, 0x59#8, 0x8F#8]

/-- The length of an instruction in bytes (R100). -/
def Instr.size (i : Instr) : Nat := (encode i).length

/-! ### Words numbered as the opcode table numbers them -/

/-- `n` bytes of the number `w`, the most significant first. -/
def bytesOf : Nat → Nat → List Byte
  | 0, _ => []
  | n + 1, w => BitVec.ofNat 8 (w / 2 ^ (8 * n)) :: bytesOf n w

/-- The 16-bit words of a byte list in the opposite order, each word kept. -/
def swapWords : List Byte → List Byte → List Byte
  | a :: b :: rest, acc => swapWords rest (a :: b :: acc)
  | _, acc => acc

/-- The bytes of a table word, padded with zeros to the longest instruction. The table writes a row as one big-endian number
(R120): that reading is taken, unless only the reading with the first word in the low bits gives an instruction of this
length (log 32). -/
def tableBytes (nbits w : Nat) : List Byte :=
  let big := bytesOf (nbits / 8) w
  let fits (bs : List Byte) : Bool := ((decode bs).map Instr.size) == some (nbits / 8)
  let chosen := if fits big then big else if fits (swapWords big []) then swapWords big [] else big
  chosen ++ List.replicate (10 - chosen.length) 0#8

/-- The instruction that the decoder reads from an instruction whose bits are `w`, numbered as the opcode table numbers
them. -/
def decodeTableWord (nbits w : Nat) : Option Instr := decode (tableBytes nbits w)

end

end Sys2Proof
end

