-- ==== Sys2Proof/Config.lean ====
section
/-! DEFINITION. The product parameters of R6 as plain data, and the free values: constants without a body that stand
for what the spec leaves to the product or calls undetermined. -/

namespace Sys2Proof

/-- The core (R2): selects whether the MAC register and its four instruction types exist. -/
inductive Cpu where
  | h8s2600
  | h8s2000
deriving DecidableEq, Repr

/-- The CPU operating mode (R6, D3). -/
inductive Mode where
  | normal
  | advanced
deriving DecidableEq, Repr

/-- The interrupt control mode INTM, 0 to 3 (R6, D1). -/
inductive IntMode where
  | mode0
  | mode1
  | mode2
  | mode3
deriving DecidableEq, Repr

/-- The source of `Masked(req)` (R6, R479): D9's default, which exists for INTM = 0 and 2 only, or the product's own
function. -/
inductive MaskRule where
  | standard
  | product
deriving DecidableEq, Repr

/-- `ENV_GRANULARITY` (R6, D13): where the environment may act, between instructions only or between any two bus cycles. -/
inductive Granularity where
  | instruction
  | busCycle
deriving DecidableEq, Repr

/-- The parameters of R6 that a product fixes. They are data of the state that no step changes, so a statement over all
states holds for every product. -/
structure Config where
  /-- `CPU` (R2). -/
  cpu : Cpu
  /-- `MODE` (D3). -/
  mode : Mode
  /-- `INTM` (D1). -/
  intm : IntMode
  /-- `UI_IS_MASK` (D8). -/
  uiIsMask : Bool
  /-- `ADDR_MASK` (R61, D7), used in advanced mode. -/
  addrMask : Long
  /-- `TRACE_VECTOR` (R474, D10). -/
  traceVector : Nat
  /-- Which function is `Masked(req)` (R479, D9). -/
  maskRule : MaskRule
  /-- `ENV_GRANULARITY` (D13). -/
  granularity : Granularity
deriving DecidableEq, Repr

/-- An interrupt request as the interrupt controller offers it (R477, D9). -/
structure Request where
  /-- The request is NMI. -/
  nmi : Bool
  /-- Its vector number. -/
  vector : Nat
  /-- Its priority level. -/
  level : BitVec 3
  /-- The value EXR.I2 to I0 take on acceptance (R478). -/
  newLevel : BitVec 3
deriving DecidableEq, Repr

/-- FREE VALUE (log 7). The `n`-th undetermined value of `w` bits, `any(w)` of R9: nothing constrains it. -/
opaque Config.freeValue (w n : Nat) : BitVec w

/-- FREE VALUE (log 15). A product's own `Masked(req)` (R6, R479): a function of INTM, CCR.I, CCR.UI, EXR.I and the request
that nothing constrains. -/
opaque Config.maskedByProduct (intm : IntMode) (i ui : Bool) (level : BitVec 3) (req : Request) : Bool

end Sys2Proof
end

