-- ==== Sys2Proof/Machine/State.lean ====
section
/-! DEFINITION. The state of the machine as plain data, the reasons a step can stop, and the state after reset.
INVENTORY.md, "State", lists every field with the rule that names it. -/

namespace Sys2Proof.Machine

/-- Reasons for a fault. There is none: the CPU has no address error, illegal-instruction, divide, privilege or access
fault (R466), and its four exceptions are transitions to a next state. -/
inductive Fault where
deriving DecidableEq, Repr

/-- Reasons for which the model declines to step. All are safe: nothing is claimed about what the hardware does next. -/
inductive Refusal where
  /-- Raised by `exec` for an instruction without a meaning yet; no arm raises it in the finished model. Safe. -/
  | notModelled (mnemonic : String)
  /-- Raised by `step` on bytes that no row of the opcode table matches, and by the meanings of TAS, LDM and STM on a
  register their encodings do not admit (R114, D6, D24, D26, D27; log 11). Safe. -/
  | undefinedEncoding
  /-- Raised by MAC, CLRMAC, LDMAC and STMAC when `CPU` is the H8S/2000 (R115, D2; log 12). Safe. -/
  | macGroupOnH8S2000
  /-- Raised by `step` when an instruction, or the environment while it runs, stores into the word at its `next` or `next + 2`,
  and when the environment has stored into the word at PC or PC + 2 before it was executed (R85, D14; log 13). Safe. -/
  | storeIntoPrefetch
deriving DecidableEq, Repr

/-- The condition-code register (R34), one field per bit, bit 7 first. -/
structure Ccr where
  /-- Bit 7, interrupt mask (R35). -/
  i : Bool
  /-- Bit 6, user bit or interrupt mask (R36). -/
  ui : Bool
  /-- Bit 5, half carry (R37). -/
  h : Bool
  /-- Bit 4, user bit (R36). -/
  u : Bool
  /-- Bit 3, negative (R37). -/
  n : Bool
  /-- Bit 2, zero (R37). -/
  z : Bool
  /-- Bit 1, overflow (R37). -/
  v : Bool
  /-- Bit 0, carry (R37). -/
  c : Bool
deriving DecidableEq, Repr

/-- The extended control register (R30). Bits 6 to 3 read as 1 and have no storage. -/
structure Exr where
  /-- Bit 7, trace (R31). -/
  t : Bool
  /-- Bits 2 to 0, interrupt mask level (R32). -/
  level : BitVec 3
deriving DecidableEq, Repr

/-- The processing states of R460. -/
inductive ProcState where
  | reset
  | exceptionHandling
  | programExecution
  | busReleased
  | sleep
  | softwareStandby
  | hardwareStandby
deriving DecidableEq, Repr

/-- The kind of a reset event (R470, D35). -/
inductive ResetKind where
  | powerOn
  | manual
deriving DecidableEq, Repr

/-- Where RES or STBY goes low (R520, D13; log 22): at the boundary, or inside what the CPU does next, when that has
performed `n` of its write bus cycles. The second is looked at with `ENV_GRANULARITY` = `bus_cycle` only. -/
inductive Arrival where
  | boundary
  | afterWrites (n : Nat)
deriving DecidableEq, Repr

/-- A write bus cycle (R66), or what the environment writes between two bus cycles (R81): the bytes, each with its normalised
address. -/
abbrev WriteCycle := List (Long × Byte)

/-- A change of memory: by a write bus cycle of the CPU (R66), or by the environment (R81). -/
inductive MemoryChange where
  | cpu (c : WriteCycle)
  | environment (c : WriteCycle)
deriving DecidableEq, Repr

/-- The environment's inputs (R7 (c)). They stand until the environment changes them; a step consumes `offers` and `acts` only. -/
structure Env where
  /-- MACS of SYSCR (R6, D4): 1 selects the saturating MAC. -/
  macs : Bool
  /-- SSBY of SYSCR (R6, D5). -/
  ssby : Bool
  /-- The RES input is low, or the watchdog timer has overflowed (R460, R520). -/
  resetAsserted : Bool
  /-- The kind of the reset event (R470). -/
  resetKind : ResetKind
  /-- The STBY pin is low (R460, R465). -/
  standbyAsserted : Bool
  /-- Where RES or STBY, when it is low, has gone low (R520, D13). -/
  arrival : Arrival
  /-- Another bus master requests the bus (R464). -/
  busRequest : Bool
  /-- What the interrupt controller offers at the coming examination points (R477), the next one first; the last offer
  of the list stays pending until it is accepted (log 15). -/
  offers : List (Option Request)
  /-- What the environment writes at the coming points at which it may act (R81, D13), the next one first: every boundary, and
  with `ENV_GRANULARITY` = `bus_cycle` also before every data bus cycle of the CPU. None for plain memory (log 22). -/
  acts : List WriteCycle
deriving DecidableEq, Repr

/-- Memory (R60): address and byte pairs in canonical form (`Memory.wf` in Ops.lean). -/
abbrev Memory := List Host.Cell

/-- The machine's state. -/
structure State where
  /-- The product's parameters (R6). -/
  cfg : Config
  /-- The environment's inputs (R7). -/
  env : Env
  /-- ER0 to ER7 (R20). -/
  er : Vector Long 8
  /-- The program counter (R26). -/
  pc : BitVec 24
  /-- CCR (R34). -/
  ccr : Ccr
  /-- EXR (R30). -/
  exr : Exr
  /-- MACH, its ten valid bits (R39). -/
  mach : BitVec 10
  /-- MACL (R39). -/
  macl : Long
  /-- N-MULT (R40). -/
  nMult : Bool
  /-- Z-MULT (R40). -/
  zMult : Bool
  /-- V-MULT (R40). -/
  vMult : Bool
  /-- The processing state (R460). -/
  procState : ProcState
  /-- The interrupt-inhibit window (R481). -/
  inhibit : Bool
  /-- True only at the boundary after RTE (R474, R805). -/
  noTrace : Bool
  /-- THE MODEL'S OWN (log 13): the environment has stored into the word at PC or PC + 2, which the CPU may have prefetched. -/
  stale : Bool
  /-- THE MODEL'S OWN (log 13, 22): how the latest instruction or exception sequence, and the environment during it, have changed
  memory, the last change first. -/
  writes : List MemoryChange
  /-- THE MODEL'S OWN (log 7): how many free values have been drawn. -/
  draws : Nat
  /-- Memory (R60). -/
  mem : Memory
deriving DecidableEq, Repr

/-- An outcome of this machine. -/
abbrev Result := Host.Outcome State Fault Refusal

/-- Right after reset exception handling (R45, R521), in a memory with nothing listed, so that the reset vector reads 0.
The values of the fields that R45 leaves open are named in log 1, 2, 3, 4, 6, 37 and 38. -/
def State.reset : State where
  cfg := { cpu := .h8s2600, mode := .advanced, intm := .mode0, uiIsMask := false, addrMask := 0xFFFFFFFF#32,
           traceVector := 5, maskRule := .standard, granularity := .instruction }
  env := { macs := false, ssby := false, resetAsserted := false, resetKind := .powerOn, standbyAsserted := false,
           arrival := .boundary, busRequest := false, offers := [], acts := [] }
  er := Vector.replicate 8 0#32
  pc := 0#24
  ccr := { i := true, ui := false, h := false, u := false, n := false, z := false, v := false, c := false }
  exr := { t := false, level := 7#3 }
  mach := 0#10
  macl := 0#32
  nMult := false
  zMult := false
  vMult := false
  procState := .programExecution
  inhibit := true
  noTrace := false
  stale := false
  writes := []
  draws := 0
  mem := []

end Sys2Proof.Machine
end

