-- ==== Sys2Proof/Machine/Flags.lean ====
section
/-! DEFINITION. Every flag computation of the spec, over any operand width `w`; bit `w - 1` is the spec's bit m. A function
that also computes a result answers the result and the new CCR. -/

namespace Sys2Proof.Machine

/-- N and Z from a result. -/
def setNZ {w : Nat} (r : BitVec w) (c : Ccr) : Ccr := { c with n := r.msb, z := r == 0#w }

/-- `SetNZ_W(v)` (R140, R300): N and Z from the value, V cleared. -/
def setNZV0 {w : Nat} (r : BitVec w) (c : Ccr) : Ccr := { setNZ r c with v := false }

/-- `AddFlags_W(d, s, cin)` (R200), `r` being the sum. -/
def addFlags {w : Nat} (d s r : BitVec w) (c : Ccr) : Ccr :=
  let h (x : BitVec w) := x.getLsbD (w - 5)
  { setNZ r c with
    h := (h s && h d) || (h d && !h r) || (h s && !h r)
    v := (s.msb && d.msb && !r.msb) || (!s.msb && !d.msb && r.msb)
    c := (s.msb && d.msb) || (d.msb && !r.msb) || (s.msb && !r.msb) }

/-- `SubFlags_W(d, s, bin)` (R201), `r` being the difference. -/
def subFlags {w : Nat} (d s r : BitVec w) (c : Ccr) : Ccr :=
  let h (x : BitVec w) := x.getLsbD (w - 5)
  { setNZ r c with
    h := (h s && !h d) || (!h d && h r) || (h s && h r)
    v := (!s.msb && d.msb && !r.msb) || (s.msb && !d.msb && r.msb)
    c := (s.msb && !d.msb) || (!d.msb && r.msb) || (s.msb && r.msb) }

/-- ADD (R203 to R208). -/
def addOp {w : Nat} (s d : BitVec w) (c : Ccr) : BitVec w × Ccr := (d + s, addFlags d s (d + s) c)

/-- SUB (R214 to R218). -/
def subOp {w : Nat} (s d : BitVec w) (c : Ccr) : BitVec w × Ccr := (d - s, subFlags d s (d - s) c)

/-- CMP (R224 to R229): the flags of SUB. -/
def cmpFlags {w : Nat} (s d : BitVec w) (c : Ccr) : Ccr := subFlags d s (d - s) c

/-- The carry as a number to add or subtract. -/
def carryIn (w : Nat) (c : Ccr) : BitVec w := (BitVec.ofBool c.c).setWidth w

/-- ADDX (R212, R213), Z by R202: kept when the result is zero. -/
def addxOp {w : Nat} (s d : BitVec w) (c : Ccr) : BitVec w × Ccr :=
  let r := d + s + carryIn w c
  (r, { addFlags d s r c with z := c.z && r == 0#w })

/-- SUBX (R222, R223), Z by R202: kept when the result is zero. -/
def subxOp {w : Nat} (s d : BitVec w) (c : Ccr) : BitVec w × Ccr :=
  let r := d - s - carryIn w c
  (r, { subFlags d s r c with z := c.z && r == 0#w })

/-- INC by `k` (R230 to R237). -/
def incOp {w : Nat} (k d : BitVec w) (c : Ccr) : BitVec w × Ccr :=
  (d + k, { setNZ (d + k) c with v := !d.msb && (d + k).msb })

/-- DEC by `k` (R238 to R242). -/
def decOp {w : Nat} (k d : BitVec w) (c : Ccr) : BitVec w × Ccr :=
  (d - k, { setNZ (d - k) c with v := d.msb && !(d - k).msb })

/-- NEG (R243 to R245). -/
def negOp {w : Nat} (d : BitVec w) (c : Ccr) : BitVec w × Ccr :=
  let r := 0#w - d
  (r, { setNZ r c with
        h := d.getLsbD (w - 5) || r.getLsbD (w - 5)
        v := d.msb && r.msb
        c := d.msb || r.msb })

/-- What DAA adds and its carry after, by the table of R234; `none` outside the table. -/
def daaRow (c h : Bool) (u l : Nat) : Option (Byte × Bool) :=
  match c, h with
  | false, false =>
    if l ≤ 9 then (if u ≤ 9 then some (0x00#8, false) else some (0x60#8, true))
    else (if u ≤ 8 then some (0x06#8, false) else some (0x66#8, true))
  | false, true =>
    if l ≤ 3 then (if u ≤ 9 then some (0x06#8, false) else some (0x66#8, true)) else none
  | true, false =>
    if u ≤ 2 then (if l ≤ 9 then some (0x60#8, true) else some (0x66#8, true)) else none
  | true, true =>
    if u ≤ 3 ∧ l ≤ 3 then some (0x66#8, true) else none

/-- What DAS adds and its carry after, by the table of R235; `none` outside the table. -/
def dasRow (c h : Bool) (u l : Nat) : Option (Byte × Bool) :=
  match c, h with
  | false, false => if u ≤ 9 ∧ l ≤ 9 then some (0x00#8, false) else none
  | false, true => if u ≤ 8 ∧ 6 ≤ l then some (0xFA#8, false) else none
  | true, false => if 7 ≤ u ∧ l ≤ 9 then some (0xA0#8, true) else none
  | true, true => if 6 ≤ u ∧ 6 ≤ l then some (0x9A#8, true) else none

/-- DAA and DAS from their table `row` (R234, R235). `any` holds the free values: the byte for a result outside the table,
then the flags H, N, Z, V, C as bits 4 to 0 of `anyFlags`; inside the table only H and V are free. -/
def decimalOp (row : Bool → Bool → Nat → Nat → Option (Byte × Bool)) (any : Byte) (anyFlags : BitVec 5) (d : Byte)
    (c : Ccr) : Byte × Ccr :=
  match row c.c c.h (d.extractLsb' 4 4).toNat (d.extractLsb' 0 4).toNat with
  | some (added, carry) =>
    (d + added, { setNZ (d + added) c with h := anyFlags.getLsbD 4, v := anyFlags.getLsbD 1, c := carry })
  | none =>
    (any, { c with
            h := anyFlags.getLsbD 4
            n := anyFlags.getLsbD 3
            z := anyFlags.getLsbD 2
            v := anyFlags.getLsbD 1
            c := anyFlags.getLsbD 0 })

/-- AND, OR, XOR and NOT write N, Z and V from their result (R300). -/
def logicOp {w : Nat} (f : BitVec w → BitVec w → BitVec w) (s d : BitVec w) (c : Ccr) : BitVec w × Ccr :=
  (f d s, setNZV0 (f d s) c)

/-- NOT (R319 to R321). -/
def notOp {w : Nat} (d : BitVec w) (c : Ccr) : BitVec w × Ccr := (~~~d, setNZV0 (~~~d) c)

/-- A shift or rotate with result `r` and `out` the last bit moved out (R600). -/
def shifted {w : Nat} (r : BitVec w) (out : Bool) (c : Ccr) : BitVec w × Ccr := (r, { setNZV0 r c with c := out })

/-- SHAL by `k` (R602 to R607), V by R601: the top `k + 1` bits are not all equal. -/
def shalOp {w : Nat} (k : Nat) (d : BitVec w) (c : Ccr) : BitVec w × Ccr :=
  let top := d.sshiftRight (w - 1 - k)
  let (r, c') := shifted (d <<< k) (d.getLsbD (w - k)) c
  (r, { c' with v := !(top == 0#w || top == BitVec.allOnes w) })

/-- SHAR by `k` (R608 to R613). -/
def sharOp {w : Nat} (k : Nat) (d : BitVec w) (c : Ccr) : BitVec w × Ccr :=
  shifted (d.sshiftRight k) (d.getLsbD (k - 1)) c

/-- SHLL by `k` (R614 to R619). -/
def shllOp {w : Nat} (k : Nat) (d : BitVec w) (c : Ccr) : BitVec w × Ccr := shifted (d <<< k) (d.getLsbD (w - k)) c

/-- SHLR by `k` (R620 to R625). -/
def shlrOp {w : Nat} (k : Nat) (d : BitVec w) (c : Ccr) : BitVec w × Ccr := shifted (d >>> k) (d.getLsbD (k - 1)) c

/-- ROTL by `k` (R626 to R631). -/
def rotlOp {w : Nat} (k : Nat) (d : BitVec w) (c : Ccr) : BitVec w × Ccr :=
  shifted (d <<< k ||| d >>> (w - k)) (d.getLsbD (w - k)) c

/-- ROTR by `k` (R632 to R637). -/
def rotrOp {w : Nat} (k : Nat) (d : BitVec w) (c : Ccr) : BitVec w × Ccr :=
  shifted (d >>> k ||| d <<< (w - k)) (d.getLsbD (k - 1)) c

/-- ROTXL by `k`, 1 or 2 (R638 to R643): C enters below bit 0 after the bits shifted out before it. -/
def rotxlOp {w : Nat} (k : Nat) (d : BitVec w) (c : Ccr) : BitVec w × Ccr :=
  shifted (d <<< k ||| carryIn w c <<< (k - 1) ||| d >>> (w + 1 - k)) (d.getLsbD (w - k)) c

/-- ROTXR by `k`, 1 or 2 (R644 to R649): C enters above bit m, below it the bits shifted out before it. -/
def rotxrOp {w : Nat} (k : Nat) (d : BitVec w) (c : Ccr) : BitVec w × Ccr :=
  shifted (d >>> k ||| carryIn w c <<< (w - k) ||| d <<< (w + 1 - k)) (d.getLsbD (k - 1)) c

/-- The sixteen conditions of R107. -/
def condition (cc : BitVec 4) (c : Ccr) : Bool :=
  match cc.toNat with
  | 0 => true
  | 1 => false
  | 2 => !(c.c || c.z)
  | 3 => c.c || c.z
  | 4 => !c.c
  | 5 => c.c
  | 6 => !c.z
  | 7 => c.z
  | 8 => !c.v
  | 9 => c.v
  | 10 => !c.n
  | 11 => c.n
  | 12 => !(c.n ^^ c.v)
  | 13 => c.n ^^ c.v
  | 14 => !(c.z || (c.n ^^ c.v))
  | _ => c.z || (c.n ^^ c.v)

end Sys2Proof.Machine
end

