-- ==== Sys2Proof/Machine/Ops.lean ====
section
/-! DEFINITION. The operations shared by every meaning: memory (R60 to R67), registers (R20 to R22), PC (R26 to R29), CCR
and EXR as bytes (R800), free values, the stack (R802, R901), taking an exception and returning from one (R466 to R485). -/

namespace Sys2Proof.Machine

/-! ### Memory as data -/

/-- What an address that memory does not list reads as. DESIGN CHOICE, unsafe: the spec gives memory no reset contents
(log 5). -/
def unlistedByte : Byte := 0#8

/-- The byte at key `a`. -/
def readByte : Memory → Nat → Byte
  | [], _ => unlistedByte
  | (k, v) :: m, a => if k = a then v else readByte m a

/-- Memory without its entries at `a`. -/
def eraseCell (m : Memory) (a : Nat) : Memory := m.filter fun cell => cell.1 != a

/-- Memory with the entry `(a, v)` put in its place by address. -/
def insertCell : Memory → Nat → Byte → Memory
  | [], a, v => [(a, v)]
  | cell :: m, a, v => if a < cell.1 then (a, v) :: cell :: m else cell :: insertCell m a v

/-- Memory with byte `v` at key `a`, in canonical form again. -/
def writeByte (m : Memory) (a : Nat) (v : Byte) : Memory :=
  if v = unlistedByte then eraseCell m a else insertCell (eraseCell m a) a v

/-- The keys of `m` rise strictly, each above every key of `below`. -/
def Memory.sortedFrom : Option Nat → Memory → Bool
  | _, [] => true
  | none, (k, _) :: m => Memory.sortedFrom (some k) m
  | some b, (k, _) :: m => decide (b < k) && Memory.sortedFrom (some k) m

/-- The canonical form: keys strictly rising and inside the 32-bit space, no entry equal to what an unlisted address reads
as. -/
def Memory.wf (m : Memory) : Bool :=
  Memory.sortedFrom none m && m.all fun cell => decide (cell.1 < 2 ^ 32) && cell.2 != unlistedByte

/-! ### Memory as the CPU reaches it -/

/-- `norm(a)` (R61). -/
def norm (cfg : Config) (a : Long) : Long :=
  match cfg.mode with
  | .normal => (a.setWidth 16).setWidth 32
  | .advanced => a &&& cfg.addrMask

/-- An address with bit 0 regarded as 0 (R64, R65). -/
def evenAddr (a : Long) : Long := a &&& 0xFFFFFFFE#32

/-- The key of the byte that a byte access at `a` reaches (R63). -/
def byteKey (cfg : Config) (a : Long) : Nat := (norm cfg a).toNat

/-- The key of the first byte that a word access at `a` reaches (R64); the second one is next to it. -/
def wordKey (cfg : Config) (a : Long) : Nat := (evenAddr (norm cfg a)).toNat

/-- The keys a word access at `a` reaches (R64). -/
def wordKeys (cfg : Config) (a : Long) : List Nat := [wordKey cfg a, wordKey cfg a + 1]

/-- The keys a longword access at `a` reaches: two word accesses (R65). -/
def longKeys (cfg : Config) (a : Long) : List Nat :=
  wordKeys cfg (evenAddr a) ++ wordKeys cfg (evenAddr a + 2)

/-- The byte that stands at `a` (R63). -/
def byteAt (s : State) (a : Long) : Byte := readByte s.mem (byteKey s.cfg a)

/-- The word that stands at `a` (R64): big-endian, bit 0 of the address ignored. -/
def wordAt (s : State) (a : Long) : Half :=
  readByte s.mem (wordKey s.cfg a) ++ readByte s.mem (wordKey s.cfg a + 1)

/-! ### Bus cycles, and the environment between them

The environment may act before every data bus cycle at granularity `bus_cycle` (R81). Where it acts memory changes, so a read is
a value, `read8`, `read16` or `read32`, and a state after it, `beforeCycle` or `beforeCycles`. -/

/-- The write cycle of a byte at `a` (R66). -/
def byteCycle (cfg : Config) (a : Long) (v : Byte) : WriteCycle := [(norm cfg a, v)]

/-- The write cycle of a word at `a` (R66): the upper byte at the even address, the lower one next to it. -/
def wordCycle (cfg : Config) (a : Long) (v : Half) : WriteCycle :=
  [(evenAddr (norm cfg a), v.extractLsb' 8 8), (evenAddr (norm cfg a) + 1, v.extractLsb' 0 8)]

/-- Memory after a write cycle. -/
def performCycle (m : Memory) (c : WriteCycle) : Memory := c.foldl (fun m cell => writeByte m cell.1.toNat cell.2) m

/-- The bytes that a change of memory stores. -/
def changedCells : MemoryChange → WriteCycle
  | .cpu c => c
  | .environment c => c

/-- Memory after a change. -/
def performChange (m : Memory) (c : MemoryChange) : Memory := performCycle m (changedCells c)

/-- The environment acts (R81): its next `n` acts are performed and noted. -/
def environmentActs (n : Nat) (s : State) : State :=
  let acts := s.env.acts.take n
  { s with
    mem := acts.foldl performCycle s.mem
    writes := (acts.map MemoryChange.environment).reverse ++ s.writes
    env := { s.env with acts := s.env.acts.drop n } }

/-- How often the environment may act at `n` bus cycles (R81, D13): before each of them at granularity `bus_cycle` only. -/
def actsBefore (g : Granularity) (n : Nat) : Nat :=
  match g with
  | .instruction => 0
  | .busCycle => n

/-- What the environment does before each of the next `n` bus cycles of an instruction or an exception sequence (R81, D13). -/
def beforeCycles (n : Nat) (s : State) : State := environmentActs (actsBefore s.cfg.granularity n) s

/-- What the environment does before the next bus cycle. -/
def beforeCycle (s : State) : State := beforeCycles 1 s

/-- `MemRead(a, 1)` (R63): one bus cycle. -/
def read8 (s : State) (a : Long) : Byte := byteAt (beforeCycle s) a

/-- `MemRead(a, 2)` (R64): one bus cycle. -/
def read16 (s : State) (a : Long) : Half := wordAt (beforeCycle s) a

/-- `MemRead(a, 4)` (R65): two bus cycles, the upper word first. -/
def read32 (s : State) (a : Long) : Long := read16 s (evenAddr a) ++ read16 (beforeCycle s) (evenAddr a + 2)

/-- A write bus cycle is performed and noted. -/
def write (c : WriteCycle) (s : State) : State :=
  let s1 := beforeCycle s
  { s1 with mem := performCycle s1.mem c, writes := .cpu c :: s1.writes }

/-- `MemWrite(a, 1, v)` (R66). -/
def write8 (s : State) (a : Long) (v : Byte) : State := write (byteCycle s.cfg a v) s

/-- `MemWrite(a, 2, v)` (R66). -/
def write16 (s : State) (a : Long) (v : Half) : State := write (wordCycle s.cfg a v) s

/-- `MemWrite(a, 4, v)` (R66): the upper word first. -/
def write32 (s : State) (a : Long) (v : Long) : State :=
  write16 (write16 s (evenAddr a) (v.extractLsb' 16 16)) (evenAddr a + 2) (v.extractLsb' 0 16)

/-! ### General registers, PC, CCR and EXR -/

/-- ER7 in its role as stack pointer (R24). -/
def sp : RegNum := 7

/-- `ER[n]` (R20). -/
def getER (s : State) (n : RegNum) : Long := s.er[n.val]

/-- `ER[n] <- v` (R20). -/
def setER (s : State) (n : RegNum) (v : Long) : State := { s with er := s.er.set n.val v }

/-- What an assignment to PC stores (R28, R29, D11, D12): bit 0 cleared; in normal mode bits 15 to 0 only. -/
def pcValue (mode : Mode) (v : BitVec 24) : BitVec 24 :=
  match mode with
  | .normal => (v.setWidth 16).setWidth 24 &&& 0xFFFFFE#24
  | .advanced => v &&& 0xFFFFFE#24

/-- `pc <- v` (R28, R29). -/
def setPc (s : State) (v : BitVec 24) : State := { s with pc := pcValue s.cfg.mode v }

/-- `next` of an instruction of `len` bytes at PC (R27). -/
def nextPc (s : State) (len : BitVec 24) : BitVec 24 := s.pc + len

/-- `pc <- next` (R27). -/
def advance (len : BitVec 24) (s : State) : State := setPc s (nextPc s len)

/-- CCR replaced. -/
def setCcr (s : State) (c : Ccr) : State := { s with ccr := c }

/-- EXR replaced. -/
def setExr (s : State) (x : Exr) : State := { s with exr := x }

/-- `CCRbyte` (R800). -/
def Ccr.toByte (c : Ccr) : Byte :=
  BitVec.ofBool c.i ++ BitVec.ofBool c.ui ++ BitVec.ofBool c.h ++ BitVec.ofBool c.u ++
    BitVec.ofBool c.n ++ BitVec.ofBool c.z ++ BitVec.ofBool c.v ++ BitVec.ofBool c.c

/-- `CCR <- v` (R800). -/
def Ccr.ofByte (v : Byte) : Ccr where
  i := v.getLsbD 7
  ui := v.getLsbD 6
  h := v.getLsbD 5
  u := v.getLsbD 4
  n := v.getLsbD 3
  z := v.getLsbD 2
  v := v.getLsbD 1
  c := v.getLsbD 0

/-- `EXRbyte` (R800): bits 6 to 3 read as 1 (R30). -/
def Exr.toByte (x : Exr) : Byte := BitVec.ofBool x.t ++ 0b1111#4 ++ x.level

/-- `EXR <- v` (R800): bits 6 to 3 of `v` are ignored (R30). -/
def Exr.ofByte (v : Byte) : Exr where
  t := v.getLsbD 7
  level := v.extractLsb' 0 3

/-- `EXR_VALID` (R6, D1): EXR is stacked, restored and traced in interrupt control modes 2 and 3 only. -/
def exrValid (cfg : Config) : Bool :=
  match cfg.intm with
  | .mode0 => false
  | .mode1 => false
  | .mode2 => true
  | .mode3 => true

/-- The next free value of `w` bits, `any(w)` of R9 (log 7). -/
def freeBits (w : Nat) (s : State) : BitVec w := Config.freeValue w s.draws

/-- One free value has been used. -/
def drawn (s : State) : State := { s with draws := s.draws + 1 }

/-! ### The stack -/

/-- ER7 lowered by `n`, as every push does first (R24). -/
def lowerSp (n : Long) (s : State) : State := setER s sp (getER s sp - n)

/-- ER7 raised by `n`, as every pop does last (R24). -/
def raiseSp (n : Long) (s : State) : State := setER s sp (getER s sp + n)

/-- Push one word. -/
def pushWord (v : Half) (s : State) : State :=
  let s1 := lowerSp 2 s
  write16 s1 (getER s1 sp) v

/-- Push one longword. -/
def pushLong (v : Long) (s : State) : State :=
  let s1 := lowerSp 4 s
  write32 s1 (getER s1 sp) v

/-- `PushPC(v)` (R901). The reserved byte of advanced mode is a free value (D28; log 10). -/
def pushPC (v : BitVec 24) (s : State) : State :=
  match s.cfg.mode with
  | .normal => pushWord (v.setWidth 16) s
  | .advanced => pushLong (freeBits 8 s ++ v) (drawn s)

/-- The bus cycles in which an address is read from memory (R68): one for a word, two for a longword. -/
def addressCycles (cfg : Config) : Nat :=
  match cfg.mode with
  | .normal => 1
  | .advanced => 2

/-- The address `PopPC()` returns (R901). -/
def stackedPC (s : State) : BitVec 24 :=
  match s.cfg.mode with
  | .normal => (read16 s (getER s sp)).setWidth 24
  | .advanced => (read32 s (getER s sp)).setWidth 24

/-- What `PopPC()` does besides (R901): its bus cycles, and ER7 raised. -/
def dropPC (s : State) : State :=
  match s.cfg.mode with
  | .normal => raiseSp 2 (beforeCycles (addressCycles s.cfg) s)
  | .advanced => raiseSp 4 (beforeCycles (addressCycles s.cfg) s)

/-- The upper word of an exception frame (R802): CCR twice in normal mode, CCR and PC bits 23 to 16 in advanced mode. -/
def frameHigh (s : State) (v : BitVec 24) : Half :=
  match s.cfg.mode with
  | .normal => s.ccr.toByte ++ s.ccr.toByte
  | .advanced => s.ccr.toByte ++ v.extractLsb' 16 8

/-- `PushFrame(v)` (R802). The byte beside EXR is a free value (D28; log 10). -/
def pushFrame (v : BitVec 24) (s : State) : State :=
  let s1 := pushWord (frameHigh s v) (pushWord (v.setWidth 16) s)
  if exrValid s.cfg then pushWord (s.exr.toByte ++ freeBits 8 s) (drawn s1) else s1

/-- `PopFrame()` (R802) followed by `pc <- ` what it returns: the return from an exception. -/
def popFrame (s : State) : State :=
  let x := read16 s (getER s sp)
  let s1 := if exrValid s.cfg then raiseSp 2 (beforeCycle s) else s
  let h := read16 s1 (getER s1 sp)
  let l := read16 (beforeCycle s1) (getER s1 sp + 2)
  let s2 := raiseSp 4 (beforeCycles 2 s1)
  let s3 := if exrValid s.cfg then setExr s2 (Exr.ofByte (x.extractLsb' 8 8)) else s2
  let s4 := setCcr s3 (Ccr.ofByte (h.extractLsb' 8 8))
  match s.cfg.mode with
  | .normal => setPc s4 (l.setWidth 24)
  | .advanced => setPc s4 (h.extractLsb' 0 8 ++ l)

/-! ### Taking an exception -/

/-- `VectorFetch(v)` (R74). -/
def vectorFetch (s : State) (v : Nat) : BitVec 24 :=
  match s.cfg.mode with
  | .normal => (read16 s (BitVec.ofNat 32 (2 * v))).setWidth 24
  | .advanced => (read32 s (BitVec.ofNat 32 (4 * v))).setWidth 24

/-- The mask bits an exception sets in CCR (R476): I always, UI when it is a mask bit (D8). -/
def maskedCcr (cfg : Config) (c : Ccr) : Ccr := { c with i := true, ui := c.ui || cfg.uiIsMask }

/-- Exception handling as trace, interrupt and TRAPA share it (R474, R475, R804): the frame with return address `ret` is
pushed, the mask bits of CCR are set, EXR becomes `x`, and PC is loaded from vector `vector`, read after the pushes. -/
def takeException (ret : BitVec 24) (vector : Nat) (x : Exr) (s : State) : State :=
  let s1 := pushFrame ret s
  let s2 := setExr (setCcr s1 (maskedCcr s1.cfg s1.ccr)) x
  setPc (beforeCycles (addressCycles s.cfg) s2) (vectorFetch s2 vector)

/-- The return from an exception (R805): the frame is removed and no trace follows at the next boundary. -/
def returnFromException (s : State) : State := { popFrame s with noTrace := true }

/-! ### Interrupt requests -/

/-- The request the interrupt controller offers now (R477). -/
def offeredRequest (s : State) : Option Request := s.env.offers.head?.join

/-- D9's default for `Masked(req)` (R479): interrupt control modes 1 and 3 have none. -/
def defaultMasked (intm : IntMode) (i : Bool) (level : BitVec 3) (req : Request) : Option Bool :=
  match intm with
  | .mode0 => some i
  | .mode1 => none
  | .mode2 => some (decide (req.level ≤ level))
  | .mode3 => none

/-- `Masked(req)` for a maskable request (R6, R479; log 15): the default where the product takes it and there is one, else
the product's own function. -/
def maskedRequest (s : State) (req : Request) : Bool :=
  let own := Config.maskedByProduct s.cfg.intm s.ccr.i s.ccr.ui s.exr.level req
  match s.cfg.maskRule with
  | .standard => (defaultMasked s.cfg.intm s.ccr.i s.exr.level req).getD own
  | .product => own

/-- `InterruptAccepted()` (R477), with the request accepted. -/
def acceptedRequest (s : State) : Option Request :=
  if s.inhibit then none
  else
    match offeredRequest s with
    | some req => if req.nmi || !maskedRequest s req then some req else none
    | none => none

/-- The offers after an examination point at which none was accepted: the next one comes up, the last one stays (R477). -/
def laterOffers : List (Option Request) → List (Option Request)
  | _ :: offer :: rest => offer :: rest
  | offers => offers

/-- An examination point has passed without an acceptance. While interrupts are inhibited nothing is examined (R481). -/
def passOffer (s : State) : State :=
  if s.inhibit then s else { s with env := { s.env with offers := laterOffers s.env.offers } }

/-- The environment acts inside an instruction at granularity `bus_cycle` only (R452, D13): there the next offer comes up. -/
def passOfferInside (s : State) : State :=
  match s.cfg.granularity with
  | .instruction => s
  | .busCycle => passOffer s

/-- `InterruptSequence(req)` (R475); the controller is told, so its offer is gone. What was prefetched is not executed. -/
def interruptSequence (req : Request) (s : State) : State :=
  let x : Exr := if exrValid s.cfg then { s.exr with level := req.newLevel } else s.exr
  let t := takeException s.pc req.vector x s
  { t with
    env := { t.env with offers := t.env.offers.tail }
    procState := .programExecution
    noTrace := false
    stale := false }

/-! ### Trace and reset -/

/-- `TraceDue()` (R474). -/
def traceDue (s : State) : Bool := exrValid s.cfg && s.exr.t && !s.noTrace

/-- `TraceSequence()` (R474) with what R484 does after it. -/
def traceSequence (s : State) : State :=
  { takeException s.pc s.cfg.traceVector { s.exr with t := false } s with
    procState := .programExecution
    noTrace := false
    inhibit := false
    stale := false }

/-- Every CPU register at a free value: after hardware standby (R465), and "not initialized" by reset (R471). -/
def freeRegisters (s : State) : State :=
  { s with
    er := Vector.ofFn fun n : Fin 8 => Config.freeValue 32 (s.draws + n.val)
    pc := pcValue s.cfg.mode (Config.freeValue 24 (s.draws + 8))
    ccr := Ccr.ofByte (Config.freeValue 8 (s.draws + 9))
    exr := Exr.ofByte (Config.freeValue 8 (s.draws + 10))
    mach := Config.freeValue 10 (s.draws + 11)
    macl := Config.freeValue 32 (s.draws + 12)
    nMult := (Config.freeValue 1 (s.draws + 13)).getLsbD 0
    zMult := (Config.freeValue 1 (s.draws + 14)).getLsbD 0
    vMult := (Config.freeValue 1 (s.draws + 15)).getLsbD 0
    draws := s.draws + 16 }

/-- The vector number of a reset (R470). -/
def resetVector : ResetKind → Nat
  | .powerOn => 0
  | .manual => 1

/-- `ResetSequence(kind)` (R471). -/
def resetSequence (kind : ResetKind) (s : State) : State :=
  let s1 := freeRegisters s
  let s2 := { s1 with
    ccr := { s1.ccr with i := true }
    exr := { t := false, level := 7#3 }
    inhibit := true
    noTrace := false
    stale := false
    procState := .programExecution }
  setPc (beforeCycles (addressCycles s2.cfg) s2) (vectorFetch s2 (resetVector kind))

/-- The STBY pin went low (R460, R465): memory is kept, every CPU register is lost. -/
def enterHardwareStandby (s : State) : State :=
  { freeRegisters s with procState := .hardwareStandby }

/-- RES is low (R460, R520). -/
def enterReset (s : State) : State := { s with procState := .reset }

/-- Of changes of memory, the first one first, those up to the CPU's write cycle number `n + 1`. -/
def changesUpTo : Nat → List MemoryChange → List MemoryChange
  | _, [] => []
  | n, .environment c :: rest => .environment c :: changesUpTo n rest
  | 0, .cpu _ :: _ => []
  | n + 1, .cpu c :: rest => .cpu c :: changesUpTo n rest

/-- What the environment has written, of changes of memory. -/
def environmentWrites (changes : List MemoryChange) : List WriteCycle :=
  changes.filterMap fun change =>
    match change with
    | .cpu _ => none
    | .environment c => some c

/-- What leads from `s` to `t` was abandoned after `n` write cycles (R471, R520): memory has changed up to there, what the
environment would have written afterwards is still to come, and no register is certain. -/
def abandoned (n : Nat) (s t : State) : State :=
  let done := changesUpTo n t.writes.reverse
  { freeRegisters t with
    mem := done.foldl performChange s.mem
    writes := done.reverse
    env := { t.env with acts := s.env.acts.drop (environmentWrites done).length } }

end Sys2Proof.Machine
end

