-- ==== Sys2Proof/Machine/Operands.lean ====
section
/-! DEFINITION. Operand forms: registers of each width (R104), effective addresses (R71), bits of a byte (R700 to R702), and
the shared shapes of instructions over them. Each shape ends with `pc <- next`, `len` being the instruction's length. -/

namespace Sys2Proof.Machine

/-! ### Registers of each width -/

/-- A register operand of width `w` (R104). -/
inductive Reg : Nat → Type where
  | b (r : Reg8) : Reg 8
  | w (r : Reg16) : Reg 16
  | l (n : RegNum) : Reg 32
deriving Repr

/-- `reg8(r)` read (R21, R104). -/
def getReg8 (s : State) : Reg8 → Byte
  | .h n => (getER s n).extractLsb' 8 8
  | .l n => (getER s n).extractLsb' 0 8

/-- `reg8(r) <- v` (R21): the other 24 bits stay. -/
def setReg8 (s : State) (r : Reg8) (v : Byte) : State :=
  match r with
  | .h n => setER s n ((getER s n).extractLsb' 16 16 ++ v ++ (getER s n).extractLsb' 0 8)
  | .l n => setER s n ((getER s n).extractLsb' 8 24 ++ v)

/-- `reg16(r)` read (R21, R104). -/
def getReg16 (s : State) : Reg16 → Half
  | .e n => (getER s n).extractLsb' 16 16
  | .r n => (getER s n).extractLsb' 0 16

/-- `reg16(r) <- v` (R21): the other half stays. -/
def setReg16 (s : State) (r : Reg16) (v : Half) : State :=
  match r with
  | .e n => setER s n (v ++ (getER s n).extractLsb' 0 16)
  | .r n => setER s n ((getER s n).extractLsb' 16 16 ++ v)

/-- The value of a register operand. -/
def Reg.get : {w : Nat} → Reg w → State → BitVec w
  | _, .b r, s => getReg8 s r
  | _, .w r, s => getReg16 s r
  | _, .l n, s => getER s n

/-- A register operand written. -/
def Reg.put : {w : Nat} → Reg w → BitVec w → State → State
  | _, .b r, v, s => setReg8 s r v
  | _, .w r, v, s => setReg16 s r v
  | _, .l n, v, s => setER s n v

/-- The operand size in bytes that goes with a register (R71's sz). -/
def Reg.bytes : {w : Nat} → Reg w → Long
  | _, .b _ => 1
  | _, .w _ => 2
  | _, .l _ => 4

/-- `MemRead` of a register's size (R63 to R65). -/
def Reg.load : {w : Nat} → Reg w → State → Long → BitVec w
  | _, .b _, s, a => read8 s a
  | _, .w _, s, a => read16 s a
  | _, .l _, s, a => read32 s a

/-- `MemWrite` of a register's size (R66). -/
def Reg.store : {w : Nat} → Reg w → Long → BitVec w → State → State
  | _, .b _, a, v, s => write8 s a v
  | _, .w _, a, v, s => write16 s a v
  | _, .l _, a, v, s => write32 s a v

/-- The bus cycles of an access of a register's size (R70). -/
def Reg.cycles : {w : Nat} → Reg w → Nat
  | _, .b _ => 1
  | _, .w _ => 1
  | _, .l _ => 2

/-- The keys of memory that an access of a register's size reaches. -/
def Reg.keys : {w : Nat} → Reg w → Config → Long → List Nat
  | _, .b _, cfg, a => [byteKey cfg a]
  | _, .w _, cfg, a => wordKeys cfg a
  | _, .l _, cfg, a => longKeys cfg a

/-! ### Effective addresses -/

/-- The data addressing modes of R71. -/
inductive Ea where
  /-- @ERn -/
  | ind (n : RegNum)
  /-- @(d:16,ERn) -/
  | disp16 (n : RegNum) (d : BitVec 16)
  /-- @(d:32,ERn) -/
  | disp32 (n : RegNum) (d : BitVec 32)
  /-- @ERn+ -/
  | postInc (n : RegNum)
  /-- @-ERn -/
  | preDec (n : RegNum)
  /-- @aa:8 -/
  | abs8 (a : BitVec 8)
  /-- @aa:16 -/
  | abs16 (a : BitVec 16)
  /-- @aa:32 -/
  | abs32 (a : BitVec 32)
deriving DecidableEq, Repr

/-- The address a mode forms for an operand of `sz` bytes, from the state before the instruction (R71). -/
def Ea.addr (ea : Ea) (sz : Long) (s : State) : Long :=
  match ea with
  | .ind n => getER s n
  | .disp16 n d => getER s n + d.signExtend 32
  | .disp32 n d => getER s n + d
  | .postInc n => getER s n
  | .preDec n => getER s n - sz
  | .abs8 a => 0xFFFFFF#24 ++ a
  | .abs16 a => a.signExtend 32
  | .abs32 a => a

/-- What a mode does to its address register (R71); it happens before the data is written anywhere (R193). -/
def Ea.update (ea : Ea) (sz : Long) (s : State) : State :=
  match ea with
  | .postInc n => setER s n (getER s n + sz)
  | .preDec n => setER s n (getER s n - sz)
  | .ind _ | .disp16 _ _ | .disp32 _ _ | .abs8 _ | .abs16 _ | .abs32 _ => s

/-! ### Shapes of instructions -/

/-- A value is transferred to a register and sets N, Z and V (R140). -/
def moveInto {w : Nat} (len : BitVec 24) (rd : Reg w) (v : BitVec w) (s : State) : State :=
  advance len (setCcr (rd.put v s) (setNZV0 v s.ccr))

/-- Memory to register (R147 to R165): the loaded data is written last (R193, D29). -/
def moveLoad {w : Nat} (len : BitVec 24) (ea : Ea) (rd : Reg w) (s : State) : State :=
  let s1 := ea.update rd.bytes s
  moveInto len rd (rd.load s1 (ea.addr rd.bytes s)) (beforeCycles rd.cycles s1)

/-- Register to memory (R166 to R184): the register is read after a pre-decrement (R193). -/
def moveStore {w : Nat} (len : BitVec 24) (rs : Reg w) (ea : Ea) (s : State) : State :=
  let s1 := ea.update rs.bytes s
  let v := rs.get s1
  advance len (setCcr (rs.store (ea.addr rs.bytes s) v s1) (setNZV0 v s.ccr))

/-- A register is replaced by a function of itself and CCR, which it also rewrites. -/
def alterReg {w : Nat} (len : BitVec 24) (rd : Reg w) (f : BitVec w → Ccr → BitVec w × Ccr) (s : State) : State :=
  let out := f (rd.get s) s.ccr
  advance len (setCcr (rd.put out.1 s) out.2)

/-- A register is examined and only CCR is written. -/
def testReg {w : Nat} (len : BitVec 24) (rd : Reg w) (f : BitVec w → Ccr → Ccr) (s : State) : State :=
  advance len (setCcr s (f (rd.get s) s.ccr))

/-! ### Bits of a byte -/

/-- The byte operand of a bit-manipulation instruction (R700). -/
inductive BitPlace where
  | reg (r : Reg8)
  | mem (ea : Ea)
deriving DecidableEq, Repr

/-- The bus cycles in which the operand byte is read (R68). -/
def BitPlace.cycles : BitPlace → Nat
  | .reg _ => 0
  | .mem _ => 1

/-- The operand byte (R702). -/
def BitPlace.get (p : BitPlace) (s : State) : Byte :=
  match p with
  | .reg r => getReg8 s r
  | .mem ea => read8 s (ea.addr 1 s)

/-- The operand byte written back whole (R704). -/
def BitPlace.put (p : BitPlace) (v : Byte) (s : State) : State :=
  match p with
  | .reg r => setReg8 s r v
  | .mem ea => write8 s (ea.addr 1 s) v

/-- The bit number that Rn gives: its lower 3 bits (R701). -/
def bitNumber (s : State) (rn : Reg8) : BitNum := ((getReg8 s rn).extractLsb' 0 3).toFin

/-- Bit `n` of `v` replaced by `b`. -/
def setBit (v : Byte) (n : BitNum) (b : Bool) : Byte :=
  if b then v ||| 1#8 <<< n.val else v &&& ~~~(1#8 <<< n.val)

/-- A bit is read and only CCR is written (R705). -/
def testBit (len : BitVec 24) (p : BitPlace) (n : BitNum) (f : Bool → Ccr → Ccr) (s : State) : State :=
  advance len (setCcr (beforeCycles p.cycles s) (f ((p.get s).getLsbD n.val) s.ccr))

/-- A bit is replaced by a function of itself and the carry; no flag changes (R705). -/
def alterBit (len : BitVec 24) (p : BitPlace) (n : BitNum) (f : Bool → Bool → Bool) (s : State) : State :=
  let v := p.get s
  advance len (p.put (setBit v n (f (v.getLsbD n.val) s.ccr.c)) (beforeCycles p.cycles s))

/-- BAND (R705). -/
def bitAnd (b : Bool) (c : Ccr) : Ccr := { c with c := c.c && b }

/-- BIAND (R705). -/
def bitAndNot (b : Bool) (c : Ccr) : Ccr := { c with c := c.c && !b }

/-- BOR (R705). -/
def bitOr (b : Bool) (c : Ccr) : Ccr := { c with c := c.c || b }

/-- BIOR (R705). -/
def bitOrNot (b : Bool) (c : Ccr) : Ccr := { c with c := c.c || !b }

/-- BXOR (R705). -/
def bitXor (b : Bool) (c : Ccr) : Ccr := { c with c := c.c ^^ b }

/-- BIXOR (R705). -/
def bitXorNot (b : Bool) (c : Ccr) : Ccr := { c with c := c.c ^^ !b }

/-- BLD (R705). -/
def bitLoad (b : Bool) (c : Ccr) : Ccr := { c with c := b }

/-- BILD (R705). -/
def bitLoadNot (b : Bool) (c : Ccr) : Ccr := { c with c := !b }

/-- BTST (R705). -/
def bitTest (b : Bool) (c : Ccr) : Ccr := { c with z := !b }

/-- BSET: the new bit from the old one and the carry (R705). -/
def bitSet (_ _ : Bool) : Bool := true

/-- BCLR (R705). -/
def bitClear (_ _ : Bool) : Bool := false

/-- BNOT (R705). -/
def bitNot (b _ : Bool) : Bool := !b

/-- BST (R705). -/
def bitStore (_ carry : Bool) : Bool := carry

/-- BIST (R705). -/
def bitStoreNot (_ carry : Bool) : Bool := !carry

/-! ### Control transfer -/

/-- Bcc (R900, R902): to `next + disp` when the condition holds, to `next` when not. -/
def branchIf (cc : BitVec 4) (len disp : BitVec 24) (s : State) : State :=
  if condition cc s.ccr then setPc s (nextPc s len + disp) else advance len s

/-- BSR and JSR (R939 to R943): the return address is pushed and control goes to `target`. -/
def callTo (len target : BitVec 24) (s : State) : State := setPc (pushPC (nextPc s len) s) target

/-- The branch address that @@aa:8 holds (R75). -/
def memIndirect (a : BitVec 8) (s : State) : BitVec 24 :=
  match s.cfg.mode with
  | .normal => (read16 s (a.setWidth 32)).setWidth 24
  | .advanced => (read32 s (a.setWidth 32)).setWidth 24

/-! ### CCR and EXR as operands -/

/-- CCR is loaded and interrupts are inhibited at the coming boundary (R801). -/
def loadCcr (len : BitVec 24) (v : Byte) (s : State) : State :=
  advance len { setCcr s (Ccr.ofByte v) with inhibit := true }

/-- EXR is loaded and interrupts are inhibited at the coming boundary (R801). -/
def loadExr (len : BitVec 24) (v : Byte) (s : State) : State :=
  advance len { setExr s (Exr.ofByte v) with inhibit := true }

/-- LDC.W (R814 to R825): the byte at the even address of the word is given to `load`. -/
def loadControl (load : BitVec 24 → Byte → State → State) (len : BitVec 24) (ea : Ea) (s : State) : State :=
  let s1 := ea.update 2 s
  load len ((read16 s1 (ea.addr 2 s)).extractLsb' 8 8) (beforeCycle s1)

/-- STC.W (R832 to R843): the byte goes to the even address, a free value to the odd one (D16; log 10). -/
def storeControl (len : BitVec 24) (v : Byte) (ea : Ea) (s : State) : State :=
  let s1 := ea.update 2 s
  advance len (write16 (drawn s1) (ea.addr 2 s) (v ++ freeBits 8 s))

end Sys2Proof.Machine
end

