-- ==== Sys2Proof/Machine/Arith.lean ====
section
/-! DEFINITION. The meanings of add, subtract, compare, increment, decrement, negate and decimal adjust (41_arithmetic, R200 to R245). -/

namespace Sys2Proof.Machine

/-- DAA and DAS (R234, R235): the byte and the flags that are not assured are free values (D15; log 8). -/
def decimalAdjust (len : BitVec 24) (row : Bool → Bool → Nat → Nat → Option (Byte × Bool)) (rd : Reg8) (s : State) :
    State :=
  alterReg len (.b rd) (decimalOp row (freeBits 8 s) (freeBits 5 (drawn s))) (drawn (drawn s))

/-- ADD.B #xx:8,Rd (R203). -/
def execAddBImm8Rd (imm : BitVec 8) (rd : Reg8) (s : State) : Result := .next (alterReg 2 (.b rd) (addOp imm) s)

/-- ADD.B Rs,Rd (R204). -/
def execAddBRsRd (rs rd : Reg8) (s : State) : Result := .next (alterReg 2 (.b rd) (addOp (Reg.get (.b rs) s)) s)

/-- ADD.W #xx:16,Rd (R205). -/
def execAddWImm16Rd (imm : BitVec 16) (rd : Reg16) (s : State) : Result := .next (alterReg 4 (.w rd) (addOp imm) s)

/-- ADD.W Rs,Rd (R206). -/
def execAddWRsRd (rs rd : Reg16) (s : State) : Result := .next (alterReg 2 (.w rd) (addOp (Reg.get (.w rs) s)) s)

/-- ADD.L #xx:32,ERd (R207). -/
def execAddLImm32ERd (imm : BitVec 32) (erd : RegNum) (s : State) : Result :=
  .next (alterReg 6 (.l erd) (addOp imm) s)

/-- ADD.L ERs,ERd (R208). -/
def execAddLERsERd (ers erd : RegNum) (s : State) : Result :=
  .next (alterReg 2 (.l erd) (addOp (Reg.get (.l ers) s)) s)

/-- ADDS #1,ERd (R209). -/
def execAddsBy1ERd (erd : RegNum) (s : State) : Result := .next (advance 2 (setER s erd (getER s erd + 1)))

/-- ADDS #2,ERd (R210). -/
def execAddsBy2ERd (erd : RegNum) (s : State) : Result := .next (advance 2 (setER s erd (getER s erd + 2)))

/-- ADDS #4,ERd (R211). -/
def execAddsBy4ERd (erd : RegNum) (s : State) : Result := .next (advance 2 (setER s erd (getER s erd + 4)))

/-- ADDX #xx:8,Rd (R212). -/
def execAddxImm8Rd (imm : BitVec 8) (rd : Reg8) (s : State) : Result := .next (alterReg 2 (.b rd) (addxOp imm) s)

/-- ADDX Rs,Rd (R213). -/
def execAddxRsRd (rs rd : Reg8) (s : State) : Result := .next (alterReg 2 (.b rd) (addxOp (Reg.get (.b rs) s)) s)

/-- SUB.B Rs,Rd (R214). -/
def execSubBRsRd (rs rd : Reg8) (s : State) : Result := .next (alterReg 2 (.b rd) (subOp (Reg.get (.b rs) s)) s)

/-- SUB.W #xx:16,Rd (R215). -/
def execSubWImm16Rd (imm : BitVec 16) (rd : Reg16) (s : State) : Result := .next (alterReg 4 (.w rd) (subOp imm) s)

/-- SUB.W Rs,Rd (R216). -/
def execSubWRsRd (rs rd : Reg16) (s : State) : Result := .next (alterReg 2 (.w rd) (subOp (Reg.get (.w rs) s)) s)

/-- SUB.L #xx:32,ERd (R217). -/
def execSubLImm32ERd (imm : BitVec 32) (erd : RegNum) (s : State) : Result :=
  .next (alterReg 6 (.l erd) (subOp imm) s)

/-- SUB.L ERs,ERd (R218). -/
def execSubLERsERd (ers erd : RegNum) (s : State) : Result :=
  .next (alterReg 2 (.l erd) (subOp (Reg.get (.l ers) s)) s)

/-- SUBS #1,ERd (R219). -/
def execSubsBy1ERd (erd : RegNum) (s : State) : Result := .next (advance 2 (setER s erd (getER s erd - 1)))

/-- SUBS #2,ERd (R220). -/
def execSubsBy2ERd (erd : RegNum) (s : State) : Result := .next (advance 2 (setER s erd (getER s erd - 2)))

/-- SUBS #4,ERd (R221). -/
def execSubsBy4ERd (erd : RegNum) (s : State) : Result := .next (advance 2 (setER s erd (getER s erd - 4)))

/-- SUBX #xx:8,Rd (R222). -/
def execSubxImm8Rd (imm : BitVec 8) (rd : Reg8) (s : State) : Result := .next (alterReg 2 (.b rd) (subxOp imm) s)

/-- SUBX Rs,Rd (R223). -/
def execSubxRsRd (rs rd : Reg8) (s : State) : Result := .next (alterReg 2 (.b rd) (subxOp (Reg.get (.b rs) s)) s)

/-- CMP.B #xx:8,Rd (R224). -/
def execCmpBImm8Rd (imm : BitVec 8) (rd : Reg8) (s : State) : Result := .next (testReg 2 (.b rd) (cmpFlags imm) s)

/-- CMP.B Rs,Rd (R225). -/
def execCmpBRsRd (rs rd : Reg8) (s : State) : Result := .next (testReg 2 (.b rd) (cmpFlags (Reg.get (.b rs) s)) s)

/-- CMP.W #xx:16,Rd (R226). -/
def execCmpWImm16Rd (imm : BitVec 16) (rd : Reg16) (s : State) : Result := .next (testReg 4 (.w rd) (cmpFlags imm) s)

/-- CMP.W Rs,Rd (R227). -/
def execCmpWRsRd (rs rd : Reg16) (s : State) : Result := .next (testReg 2 (.w rd) (cmpFlags (Reg.get (.w rs) s)) s)

/-- CMP.L #xx:32,ERd (R228). -/
def execCmpLImm32ERd (imm : BitVec 32) (erd : RegNum) (s : State) : Result :=
  .next (testReg 6 (.l erd) (cmpFlags imm) s)

/-- CMP.L ERs,ERd (R229). -/
def execCmpLERsERd (ers erd : RegNum) (s : State) : Result :=
  .next (testReg 2 (.l erd) (cmpFlags (Reg.get (.l ers) s)) s)

/-- INC.B Rd (R230). -/
def execIncBRd (rd : Reg8) (s : State) : Result := .next (alterReg 2 (.b rd) (incOp 1) s)

/-- INC.W #1,Rd (R231). -/
def execIncWBy1Rd (rd : Reg16) (s : State) : Result := .next (alterReg 2 (.w rd) (incOp 1) s)

/-- INC.W #2,Rd (R232). -/
def execIncWBy2Rd (rd : Reg16) (s : State) : Result := .next (alterReg 2 (.w rd) (incOp 2) s)

/-- INC.L #1,ERd (R236). -/
def execIncLBy1ERd (erd : RegNum) (s : State) : Result := .next (alterReg 2 (.l erd) (incOp 1) s)

/-- INC.L #2,ERd (R237). -/
def execIncLBy2ERd (erd : RegNum) (s : State) : Result := .next (alterReg 2 (.l erd) (incOp 2) s)

/-- DEC.B Rd (R238). -/
def execDecBRd (rd : Reg8) (s : State) : Result := .next (alterReg 2 (.b rd) (decOp 1) s)

/-- DEC.W #1,Rd (R239). -/
def execDecWBy1Rd (rd : Reg16) (s : State) : Result := .next (alterReg 2 (.w rd) (decOp 1) s)

/-- DEC.W #2,Rd (R240). -/
def execDecWBy2Rd (rd : Reg16) (s : State) : Result := .next (alterReg 2 (.w rd) (decOp 2) s)

/-- DEC.L #1,ERd (R241). -/
def execDecLBy1ERd (erd : RegNum) (s : State) : Result := .next (alterReg 2 (.l erd) (decOp 1) s)

/-- DEC.L #2,ERd (R242). -/
def execDecLBy2ERd (erd : RegNum) (s : State) : Result := .next (alterReg 2 (.l erd) (decOp 2) s)

/-- NEG.B Rd (R243). -/
def execNegBRd (rd : Reg8) (s : State) : Result := .next (alterReg 2 (.b rd) negOp s)

/-- NEG.W Rd (R244). -/
def execNegWRd (rd : Reg16) (s : State) : Result := .next (alterReg 2 (.w rd) negOp s)

/-- NEG.L ERd (R245). -/
def execNegLERd (erd : RegNum) (s : State) : Result := .next (alterReg 2 (.l erd) negOp s)

/-- DAA Rd (R234). -/
def execDaaRd (rd : Reg8) (s : State) : Result := .next (decimalAdjust 2 daaRow rd s)

/-- DAS Rd (R235). -/
def execDasRd (rd : Reg8) (s : State) : Result := .next (decimalAdjust 2 dasRow rd s)

end Sys2Proof.Machine
end

