-- ==== Sys2Proof/Machine/Bit.lean ====
section
/-! DEFINITION. The meanings of bit manipulation (45_bit and 46_bit_bnot_to_bxor, R700 to R799). -/

namespace Sys2Proof.Machine

/-- BAND #xx:3,Rd (R710). -/
def execBandImm3Rd (n : BitNum) (rd : Reg8) (s : State) : Result := .next (testBit 2 (.reg rd) n bitAnd s)

/-- BAND #xx:3,@ERd (R711). -/
def execBandImm3AtERd (n : BitNum) (erd : RegNum) (s : State) : Result :=
  .next (testBit 4 (.mem (.ind erd)) n bitAnd s)

/-- BAND #xx:3,@aa:8 (R712). -/
def execBandImm3Aa8 (n : BitNum) (abs : BitVec 8) (s : State) : Result :=
  .next (testBit 4 (.mem (.abs8 abs)) n bitAnd s)

/-- BAND #xx:3,@aa:16 (R713). -/
def execBandImm3Aa16 (n : BitNum) (abs : BitVec 16) (s : State) : Result :=
  .next (testBit 6 (.mem (.abs16 abs)) n bitAnd s)

/-- BAND #xx:3,@aa:32 (R714). -/
def execBandImm3Aa32 (n : BitNum) (abs : BitVec 32) (s : State) : Result :=
  .next (testBit 8 (.mem (.abs32 abs)) n bitAnd s)

/-- BCLR #xx:3,Rd (R715). -/
def execBclrImm3Rd (n : BitNum) (rd : Reg8) (s : State) : Result := .next (alterBit 2 (.reg rd) n bitClear s)

/-- BCLR #xx:3,@ERd (R716). -/
def execBclrImm3AtERd (n : BitNum) (erd : RegNum) (s : State) : Result :=
  .next (alterBit 4 (.mem (.ind erd)) n bitClear s)

/-- BCLR #xx:3,@aa:8 (R717). -/
def execBclrImm3Aa8 (n : BitNum) (abs : BitVec 8) (s : State) : Result :=
  .next (alterBit 4 (.mem (.abs8 abs)) n bitClear s)

/-- BCLR #xx:3,@aa:16 (R718). -/
def execBclrImm3Aa16 (n : BitNum) (abs : BitVec 16) (s : State) : Result :=
  .next (alterBit 6 (.mem (.abs16 abs)) n bitClear s)

/-- BCLR #xx:3,@aa:32 (R719). -/
def execBclrImm3Aa32 (n : BitNum) (abs : BitVec 32) (s : State) : Result :=
  .next (alterBit 8 (.mem (.abs32 abs)) n bitClear s)

/-- BCLR Rn,Rd (R720). -/
def execBclrRnRd (rn rd : Reg8) (s : State) : Result := .next (alterBit 2 (.reg rd) (bitNumber s rn) bitClear s)

/-- BCLR Rn,@ERd (R721). -/
def execBclrRnAtERd (rn : Reg8) (erd : RegNum) (s : State) : Result :=
  .next (alterBit 4 (.mem (.ind erd)) (bitNumber s rn) bitClear s)

/-- BCLR Rn,@aa:8 (R722). -/
def execBclrRnAa8 (rn : Reg8) (abs : BitVec 8) (s : State) : Result :=
  .next (alterBit 4 (.mem (.abs8 abs)) (bitNumber s rn) bitClear s)

/-- BCLR Rn,@aa:16 (R723). -/
def execBclrRnAa16 (rn : Reg8) (abs : BitVec 16) (s : State) : Result :=
  .next (alterBit 6 (.mem (.abs16 abs)) (bitNumber s rn) bitClear s)

/-- BCLR Rn,@aa:32 (R724). -/
def execBclrRnAa32 (rn : Reg8) (abs : BitVec 32) (s : State) : Result :=
  .next (alterBit 8 (.mem (.abs32 abs)) (bitNumber s rn) bitClear s)

/-- BIAND #xx:3,Rd (R725). -/
def execBiandImm3Rd (n : BitNum) (rd : Reg8) (s : State) : Result := .next (testBit 2 (.reg rd) n bitAndNot s)

/-- BIAND #xx:3,@ERd (R726). -/
def execBiandImm3AtERd (n : BitNum) (erd : RegNum) (s : State) : Result :=
  .next (testBit 4 (.mem (.ind erd)) n bitAndNot s)

/-- BIAND #xx:3,@aa:8 (R727). -/
def execBiandImm3Aa8 (n : BitNum) (abs : BitVec 8) (s : State) : Result :=
  .next (testBit 4 (.mem (.abs8 abs)) n bitAndNot s)

/-- BIAND #xx:3,@aa:16 (R728). -/
def execBiandImm3Aa16 (n : BitNum) (abs : BitVec 16) (s : State) : Result :=
  .next (testBit 6 (.mem (.abs16 abs)) n bitAndNot s)

/-- BIAND #xx:3,@aa:32 (R729). -/
def execBiandImm3Aa32 (n : BitNum) (abs : BitVec 32) (s : State) : Result :=
  .next (testBit 8 (.mem (.abs32 abs)) n bitAndNot s)

/-- BILD #xx:3,Rd (R730). -/
def execBildImm3Rd (n : BitNum) (rd : Reg8) (s : State) : Result := .next (testBit 2 (.reg rd) n bitLoadNot s)

/-- BILD #xx:3,@ERd (R731). -/
def execBildImm3AtERd (n : BitNum) (erd : RegNum) (s : State) : Result :=
  .next (testBit 4 (.mem (.ind erd)) n bitLoadNot s)

/-- BILD #xx:3,@aa:8 (R732). -/
def execBildImm3Aa8 (n : BitNum) (abs : BitVec 8) (s : State) : Result :=
  .next (testBit 4 (.mem (.abs8 abs)) n bitLoadNot s)

/-- BILD #xx:3,@aa:16 (R733). -/
def execBildImm3Aa16 (n : BitNum) (abs : BitVec 16) (s : State) : Result :=
  .next (testBit 6 (.mem (.abs16 abs)) n bitLoadNot s)

/-- BILD #xx:3,@aa:32 (R734). -/
def execBildImm3Aa32 (n : BitNum) (abs : BitVec 32) (s : State) : Result :=
  .next (testBit 8 (.mem (.abs32 abs)) n bitLoadNot s)

/-- BIOR #xx:3,Rd (R735). -/
def execBiorImm3Rd (n : BitNum) (rd : Reg8) (s : State) : Result := .next (testBit 2 (.reg rd) n bitOrNot s)

/-- BIOR #xx:3,@ERd (R736). -/
def execBiorImm3AtERd (n : BitNum) (erd : RegNum) (s : State) : Result :=
  .next (testBit 4 (.mem (.ind erd)) n bitOrNot s)

/-- BIOR #xx:3,@aa:8 (R737). -/
def execBiorImm3Aa8 (n : BitNum) (abs : BitVec 8) (s : State) : Result :=
  .next (testBit 4 (.mem (.abs8 abs)) n bitOrNot s)

/-- BIOR #xx:3,@aa:16 (R738). -/
def execBiorImm3Aa16 (n : BitNum) (abs : BitVec 16) (s : State) : Result :=
  .next (testBit 6 (.mem (.abs16 abs)) n bitOrNot s)

/-- BIOR #xx:3,@aa:32 (R739). -/
def execBiorImm3Aa32 (n : BitNum) (abs : BitVec 32) (s : State) : Result :=
  .next (testBit 8 (.mem (.abs32 abs)) n bitOrNot s)

/-- BIST #xx:3,Rd (R740). -/
def execBistImm3Rd (n : BitNum) (rd : Reg8) (s : State) : Result := .next (alterBit 2 (.reg rd) n bitStoreNot s)

/-- BIST #xx:3,@ERd (R741). -/
def execBistImm3AtERd (n : BitNum) (erd : RegNum) (s : State) : Result :=
  .next (alterBit 4 (.mem (.ind erd)) n bitStoreNot s)

/-- BIST #xx:3,@aa:8 (R742). -/
def execBistImm3Aa8 (n : BitNum) (abs : BitVec 8) (s : State) : Result :=
  .next (alterBit 4 (.mem (.abs8 abs)) n bitStoreNot s)

/-- BIST #xx:3,@aa:16 (R743). -/
def execBistImm3Aa16 (n : BitNum) (abs : BitVec 16) (s : State) : Result :=
  .next (alterBit 6 (.mem (.abs16 abs)) n bitStoreNot s)

/-- BIST #xx:3,@aa:32 (R744). -/
def execBistImm3Aa32 (n : BitNum) (abs : BitVec 32) (s : State) : Result :=
  .next (alterBit 8 (.mem (.abs32 abs)) n bitStoreNot s)

/-- BIXOR #xx:3,Rd (R745). -/
def execBixorImm3Rd (n : BitNum) (rd : Reg8) (s : State) : Result := .next (testBit 2 (.reg rd) n bitXorNot s)

/-- BIXOR #xx:3,@ERd (R746). -/
def execBixorImm3AtERd (n : BitNum) (erd : RegNum) (s : State) : Result :=
  .next (testBit 4 (.mem (.ind erd)) n bitXorNot s)

/-- BIXOR #xx:3,@aa:8 (R747). -/
def execBixorImm3Aa8 (n : BitNum) (abs : BitVec 8) (s : State) : Result :=
  .next (testBit 4 (.mem (.abs8 abs)) n bitXorNot s)

/-- BIXOR #xx:3,@aa:16 (R748). -/
def execBixorImm3Aa16 (n : BitNum) (abs : BitVec 16) (s : State) : Result :=
  .next (testBit 6 (.mem (.abs16 abs)) n bitXorNot s)

/-- BIXOR #xx:3,@aa:32 (R749). -/
def execBixorImm3Aa32 (n : BitNum) (abs : BitVec 32) (s : State) : Result :=
  .next (testBit 8 (.mem (.abs32 abs)) n bitXorNot s)

/-- BLD #xx:3,Rd (R750). -/
def execBldImm3Rd (n : BitNum) (rd : Reg8) (s : State) : Result := .next (testBit 2 (.reg rd) n bitLoad s)

/-- BLD #xx:3,@ERd (R751). -/
def execBldImm3AtERd (n : BitNum) (erd : RegNum) (s : State) : Result :=
  .next (testBit 4 (.mem (.ind erd)) n bitLoad s)

/-- BLD #xx:3,@aa:8 (R752). -/
def execBldImm3Aa8 (n : BitNum) (abs : BitVec 8) (s : State) : Result :=
  .next (testBit 4 (.mem (.abs8 abs)) n bitLoad s)

/-- BLD #xx:3,@aa:16 (R753). -/
def execBldImm3Aa16 (n : BitNum) (abs : BitVec 16) (s : State) : Result :=
  .next (testBit 6 (.mem (.abs16 abs)) n bitLoad s)

/-- BLD #xx:3,@aa:32 (R754). -/
def execBldImm3Aa32 (n : BitNum) (abs : BitVec 32) (s : State) : Result :=
  .next (testBit 8 (.mem (.abs32 abs)) n bitLoad s)

/-- BNOT #xx:3,Rd (R755). -/
def execBnotImm3Rd (n : BitNum) (rd : Reg8) (s : State) : Result := .next (alterBit 2 (.reg rd) n bitNot s)

/-- BNOT #xx:3,@ERd (R756). -/
def execBnotImm3AtERd (n : BitNum) (erd : RegNum) (s : State) : Result :=
  .next (alterBit 4 (.mem (.ind erd)) n bitNot s)

/-- BNOT #xx:3,@aa:8 (R757). -/
def execBnotImm3Aa8 (n : BitNum) (abs : BitVec 8) (s : State) : Result :=
  .next (alterBit 4 (.mem (.abs8 abs)) n bitNot s)

/-- BNOT #xx:3,@aa:16 (R758). -/
def execBnotImm3Aa16 (n : BitNum) (abs : BitVec 16) (s : State) : Result :=
  .next (alterBit 6 (.mem (.abs16 abs)) n bitNot s)

/-- BNOT #xx:3,@aa:32 (R759). -/
def execBnotImm3Aa32 (n : BitNum) (abs : BitVec 32) (s : State) : Result :=
  .next (alterBit 8 (.mem (.abs32 abs)) n bitNot s)

/-- BNOT Rn,Rd (R760). -/
def execBnotRnRd (rn rd : Reg8) (s : State) : Result := .next (alterBit 2 (.reg rd) (bitNumber s rn) bitNot s)

/-- BNOT Rn,@ERd (R761). -/
def execBnotRnAtERd (rn : Reg8) (erd : RegNum) (s : State) : Result :=
  .next (alterBit 4 (.mem (.ind erd)) (bitNumber s rn) bitNot s)

/-- BNOT Rn,@aa:8 (R762). -/
def execBnotRnAa8 (rn : Reg8) (abs : BitVec 8) (s : State) : Result :=
  .next (alterBit 4 (.mem (.abs8 abs)) (bitNumber s rn) bitNot s)

/-- BNOT Rn,@aa:16 (R763). -/
def execBnotRnAa16 (rn : Reg8) (abs : BitVec 16) (s : State) : Result :=
  .next (alterBit 6 (.mem (.abs16 abs)) (bitNumber s rn) bitNot s)

/-- BNOT Rn,@aa:32 (R764). -/
def execBnotRnAa32 (rn : Reg8) (abs : BitVec 32) (s : State) : Result :=
  .next (alterBit 8 (.mem (.abs32 abs)) (bitNumber s rn) bitNot s)

/-- BOR #xx:3,Rd (R765). -/
def execBorImm3Rd (n : BitNum) (rd : Reg8) (s : State) : Result := .next (testBit 2 (.reg rd) n bitOr s)

/-- BOR #xx:3,@ERd (R766). -/
def execBorImm3AtERd (n : BitNum) (erd : RegNum) (s : State) : Result := .next (testBit 4 (.mem (.ind erd)) n bitOr s)

/-- BOR #xx:3,@aa:8 (R767). -/
def execBorImm3Aa8 (n : BitNum) (abs : BitVec 8) (s : State) : Result :=
  .next (testBit 4 (.mem (.abs8 abs)) n bitOr s)

/-- BOR #xx:3,@aa:16 (R768). -/
def execBorImm3Aa16 (n : BitNum) (abs : BitVec 16) (s : State) : Result :=
  .next (testBit 6 (.mem (.abs16 abs)) n bitOr s)

/-- BOR #xx:3,@aa:32 (R769). -/
def execBorImm3Aa32 (n : BitNum) (abs : BitVec 32) (s : State) : Result :=
  .next (testBit 8 (.mem (.abs32 abs)) n bitOr s)

/-- BSET #xx:3,Rd (R770). -/
def execBsetImm3Rd (n : BitNum) (rd : Reg8) (s : State) : Result := .next (alterBit 2 (.reg rd) n bitSet s)

/-- BSET #xx:3,@ERd (R771). -/
def execBsetImm3AtERd (n : BitNum) (erd : RegNum) (s : State) : Result :=
  .next (alterBit 4 (.mem (.ind erd)) n bitSet s)

/-- BSET #xx:3,@aa:8 (R772). -/
def execBsetImm3Aa8 (n : BitNum) (abs : BitVec 8) (s : State) : Result :=
  .next (alterBit 4 (.mem (.abs8 abs)) n bitSet s)

/-- BSET #xx:3,@aa:16 (R773). -/
def execBsetImm3Aa16 (n : BitNum) (abs : BitVec 16) (s : State) : Result :=
  .next (alterBit 6 (.mem (.abs16 abs)) n bitSet s)

/-- BSET #xx:3,@aa:32 (R774). -/
def execBsetImm3Aa32 (n : BitNum) (abs : BitVec 32) (s : State) : Result :=
  .next (alterBit 8 (.mem (.abs32 abs)) n bitSet s)

/-- BSET Rn,Rd (R775). -/
def execBsetRnRd (rn rd : Reg8) (s : State) : Result := .next (alterBit 2 (.reg rd) (bitNumber s rn) bitSet s)

/-- BSET Rn,@ERd (R776). -/
def execBsetRnAtERd (rn : Reg8) (erd : RegNum) (s : State) : Result :=
  .next (alterBit 4 (.mem (.ind erd)) (bitNumber s rn) bitSet s)

/-- BSET Rn,@aa:8 (R777). -/
def execBsetRnAa8 (rn : Reg8) (abs : BitVec 8) (s : State) : Result :=
  .next (alterBit 4 (.mem (.abs8 abs)) (bitNumber s rn) bitSet s)

/-- BSET Rn,@aa:16 (R778). -/
def execBsetRnAa16 (rn : Reg8) (abs : BitVec 16) (s : State) : Result :=
  .next (alterBit 6 (.mem (.abs16 abs)) (bitNumber s rn) bitSet s)

/-- BSET Rn,@aa:32 (R779). -/
def execBsetRnAa32 (rn : Reg8) (abs : BitVec 32) (s : State) : Result :=
  .next (alterBit 8 (.mem (.abs32 abs)) (bitNumber s rn) bitSet s)

/-- BST #xx:3,Rd (R780). -/
def execBstImm3Rd (n : BitNum) (rd : Reg8) (s : State) : Result := .next (alterBit 2 (.reg rd) n bitStore s)

/-- BST #xx:3,@ERd (R781). -/
def execBstImm3AtERd (n : BitNum) (erd : RegNum) (s : State) : Result :=
  .next (alterBit 4 (.mem (.ind erd)) n bitStore s)

/-- BST #xx:3,@aa:8 (R782). -/
def execBstImm3Aa8 (n : BitNum) (abs : BitVec 8) (s : State) : Result :=
  .next (alterBit 4 (.mem (.abs8 abs)) n bitStore s)

/-- BST #xx:3,@aa:16 (R783). -/
def execBstImm3Aa16 (n : BitNum) (abs : BitVec 16) (s : State) : Result :=
  .next (alterBit 6 (.mem (.abs16 abs)) n bitStore s)

/-- BST #xx:3,@aa:32 (R784). -/
def execBstImm3Aa32 (n : BitNum) (abs : BitVec 32) (s : State) : Result :=
  .next (alterBit 8 (.mem (.abs32 abs)) n bitStore s)

/-- BTST #xx:3,Rd (R785). -/
def execBtstImm3Rd (n : BitNum) (rd : Reg8) (s : State) : Result := .next (testBit 2 (.reg rd) n bitTest s)

/-- BTST #xx:3,@ERd (R786). -/
def execBtstImm3AtERd (n : BitNum) (erd : RegNum) (s : State) : Result :=
  .next (testBit 4 (.mem (.ind erd)) n bitTest s)

/-- BTST #xx:3,@aa:8 (R787). -/
def execBtstImm3Aa8 (n : BitNum) (abs : BitVec 8) (s : State) : Result :=
  .next (testBit 4 (.mem (.abs8 abs)) n bitTest s)

/-- BTST #xx:3,@aa:16 (R788). -/
def execBtstImm3Aa16 (n : BitNum) (abs : BitVec 16) (s : State) : Result :=
  .next (testBit 6 (.mem (.abs16 abs)) n bitTest s)

/-- BTST #xx:3,@aa:32 (R789). -/
def execBtstImm3Aa32 (n : BitNum) (abs : BitVec 32) (s : State) : Result :=
  .next (testBit 8 (.mem (.abs32 abs)) n bitTest s)

/-- BTST Rn,Rd (R790). -/
def execBtstRnRd (rn rd : Reg8) (s : State) : Result := .next (testBit 2 (.reg rd) (bitNumber s rn) bitTest s)

/-- BTST Rn,@ERd (R791). -/
def execBtstRnAtERd (rn : Reg8) (erd : RegNum) (s : State) : Result :=
  .next (testBit 4 (.mem (.ind erd)) (bitNumber s rn) bitTest s)

/-- BTST Rn,@aa:8 (R792). -/
def execBtstRnAa8 (rn : Reg8) (abs : BitVec 8) (s : State) : Result :=
  .next (testBit 4 (.mem (.abs8 abs)) (bitNumber s rn) bitTest s)

/-- BTST Rn,@aa:16 (R793). -/
def execBtstRnAa16 (rn : Reg8) (abs : BitVec 16) (s : State) : Result :=
  .next (testBit 6 (.mem (.abs16 abs)) (bitNumber s rn) bitTest s)

/-- BTST Rn,@aa:32 (R794). -/
def execBtstRnAa32 (rn : Reg8) (abs : BitVec 32) (s : State) : Result :=
  .next (testBit 8 (.mem (.abs32 abs)) (bitNumber s rn) bitTest s)

/-- BXOR #xx:3,Rd (R795). -/
def execBxorImm3Rd (n : BitNum) (rd : Reg8) (s : State) : Result := .next (testBit 2 (.reg rd) n bitXor s)

/-- BXOR #xx:3,@ERd (R796). -/
def execBxorImm3AtERd (n : BitNum) (erd : RegNum) (s : State) : Result :=
  .next (testBit 4 (.mem (.ind erd)) n bitXor s)

/-- BXOR #xx:3,@aa:8 (R797). -/
def execBxorImm3Aa8 (n : BitNum) (abs : BitVec 8) (s : State) : Result :=
  .next (testBit 4 (.mem (.abs8 abs)) n bitXor s)

/-- BXOR #xx:3,@aa:16 (R798). -/
def execBxorImm3Aa16 (n : BitNum) (abs : BitVec 16) (s : State) : Result :=
  .next (testBit 6 (.mem (.abs16 abs)) n bitXor s)

/-- BXOR #xx:3,@aa:32 (R799). -/
def execBxorImm3Aa32 (n : BitNum) (abs : BitVec 32) (s : State) : Result :=
  .next (testBit 8 (.mem (.abs32 abs)) n bitXor s)

end Sys2Proof.Machine
end

