-- ==== Sys2Proof/Machine/Block.lean ====
section
/-! DEFINITION. The meanings of block transfer (49_block, R450 to R454). -/

namespace Sys2Proof.Machine

/-- One byte moved from @ER5 to @ER6, both registers raised by 1 (R451, R452). -/
def copyByte (s : State) : State :=
  let s1 := write8 (beforeCycle s) (getER s 6) (read8 s (getER s 5))
  let s2 := setER s1 5 (getER s1 5 + 1)
  setER s2 6 (getER s2 6 + 1)

/-- The loop of EEPMOV.B, `n` being R4L (R451). The two leading reads have no effect (R69; log 28). -/
def copyBytesB : Nat → State → State
  | 0, s => s
  | n + 1, s =>
    let s1 := copyByte s
    copyBytesB n (setReg8 s1 (.l 4) (getReg8 s1 (.l 4) - 1))

/-- The loop of EEPMOV.W, `n` being R4 (R452): interrupts are examined after each byte, and an accepted one ends it. The
request stays offered, and the next boundary runs its sequence. A new request can arrive in between at granularity
`bus_cycle` only. -/
def copyBytesW : Nat → State → State
  | 0, s => s
  | n + 1, s =>
    let s1 := copyByte s
    let s2 := setReg16 s1 (.r 4) (getReg16 s1 (.r 4) - 1)
    if (acceptedRequest s2).isSome then s2 else copyBytesW n (passOfferInside s2)

/-- EEPMOV.B (R451). -/
def execEepmovB (s : State) : Result := .next (advance 4 (copyBytesB (getReg8 s (.l 4)).toNat s))

/-- EEPMOV.W (R452). -/
def execEepmovW (s : State) : Result := .next (advance 4 (copyBytesW (getReg16 s (.r 4)).toNat s))

end Sys2Proof.Machine
end

