-- ==== Sys2Proof/Machine/Branch.lean ====
section
/-! DEFINITION. The meanings of branches (47_branch, R900 to R946). -/

namespace Sys2Proof.Machine

/-- BRA (BT) d:8 (R904). -/
def execBraD8 (disp : BitVec 8) (s : State) : Result := .next (branchIf 0 2 (disp.signExtend 24) s)

/-- BRA (BT) d:16 (R905). -/
def execBraD16 (disp : BitVec 16) (s : State) : Result := .next (branchIf 0 4 (disp.signExtend 24) s)

/-- BRN (BF) d:8 (R906). -/
def execBrnD8 (disp : BitVec 8) (s : State) : Result := .next (branchIf 1 2 (disp.signExtend 24) s)

/-- BRN (BF) d:16 (R907). -/
def execBrnD16 (disp : BitVec 16) (s : State) : Result := .next (branchIf 1 4 (disp.signExtend 24) s)

/-- BHI d:8 (R908). -/
def execBhiD8 (disp : BitVec 8) (s : State) : Result := .next (branchIf 2 2 (disp.signExtend 24) s)

/-- BHI d:16 (R909). -/
def execBhiD16 (disp : BitVec 16) (s : State) : Result := .next (branchIf 2 4 (disp.signExtend 24) s)

/-- BLS d:8 (R910). -/
def execBlsD8 (disp : BitVec 8) (s : State) : Result := .next (branchIf 3 2 (disp.signExtend 24) s)

/-- BLS d:16 (R911). -/
def execBlsD16 (disp : BitVec 16) (s : State) : Result := .next (branchIf 3 4 (disp.signExtend 24) s)

/-- BCC (BHS) d:8 (R912). -/
def execBccD8 (disp : BitVec 8) (s : State) : Result := .next (branchIf 4 2 (disp.signExtend 24) s)

/-- BCC (BHS) d:16 (R913). -/
def execBccD16 (disp : BitVec 16) (s : State) : Result := .next (branchIf 4 4 (disp.signExtend 24) s)

/-- BCS (BLO) d:8 (R914). -/
def execBcsD8 (disp : BitVec 8) (s : State) : Result := .next (branchIf 5 2 (disp.signExtend 24) s)

/-- BCS (BLO) d:16 (R915). -/
def execBcsD16 (disp : BitVec 16) (s : State) : Result := .next (branchIf 5 4 (disp.signExtend 24) s)

/-- BNE d:8 (R916). -/
def execBneD8 (disp : BitVec 8) (s : State) : Result := .next (branchIf 6 2 (disp.signExtend 24) s)

/-- BNE d:16 (R917). -/
def execBneD16 (disp : BitVec 16) (s : State) : Result := .next (branchIf 6 4 (disp.signExtend 24) s)

/-- BEQ d:8 (R918). -/
def execBeqD8 (disp : BitVec 8) (s : State) : Result := .next (branchIf 7 2 (disp.signExtend 24) s)

/-- BEQ d:16 (R919). -/
def execBeqD16 (disp : BitVec 16) (s : State) : Result := .next (branchIf 7 4 (disp.signExtend 24) s)

/-- BVC d:8 (R920). -/
def execBvcD8 (disp : BitVec 8) (s : State) : Result := .next (branchIf 8 2 (disp.signExtend 24) s)

/-- BVC d:16 (R921). -/
def execBvcD16 (disp : BitVec 16) (s : State) : Result := .next (branchIf 8 4 (disp.signExtend 24) s)

/-- BVS d:8 (R922). -/
def execBvsD8 (disp : BitVec 8) (s : State) : Result := .next (branchIf 9 2 (disp.signExtend 24) s)

/-- BVS d:16 (R923). -/
def execBvsD16 (disp : BitVec 16) (s : State) : Result := .next (branchIf 9 4 (disp.signExtend 24) s)

/-- BPL d:8 (R924). -/
def execBplD8 (disp : BitVec 8) (s : State) : Result := .next (branchIf 10 2 (disp.signExtend 24) s)

/-- BPL d:16 (R925). -/
def execBplD16 (disp : BitVec 16) (s : State) : Result := .next (branchIf 10 4 (disp.signExtend 24) s)

/-- BMI d:8 (R926). -/
def execBmiD8 (disp : BitVec 8) (s : State) : Result := .next (branchIf 11 2 (disp.signExtend 24) s)

/-- BMI d:16 (R927). -/
def execBmiD16 (disp : BitVec 16) (s : State) : Result := .next (branchIf 11 4 (disp.signExtend 24) s)

/-- BGE d:8 (R928). -/
def execBgeD8 (disp : BitVec 8) (s : State) : Result := .next (branchIf 12 2 (disp.signExtend 24) s)

/-- BGE d:16 (R929). -/
def execBgeD16 (disp : BitVec 16) (s : State) : Result := .next (branchIf 12 4 (disp.signExtend 24) s)

/-- BLT d:8 (R930). -/
def execBltD8 (disp : BitVec 8) (s : State) : Result := .next (branchIf 13 2 (disp.signExtend 24) s)

/-- BLT d:16 (R931). -/
def execBltD16 (disp : BitVec 16) (s : State) : Result := .next (branchIf 13 4 (disp.signExtend 24) s)

/-- BGT d:8 (R932). -/
def execBgtD8 (disp : BitVec 8) (s : State) : Result := .next (branchIf 14 2 (disp.signExtend 24) s)

/-- BGT d:16 (R933). -/
def execBgtD16 (disp : BitVec 16) (s : State) : Result := .next (branchIf 14 4 (disp.signExtend 24) s)

/-- BLE d:8 (R934). -/
def execBleD8 (disp : BitVec 8) (s : State) : Result := .next (branchIf 15 2 (disp.signExtend 24) s)

/-- BLE d:16 (R935). -/
def execBleD16 (disp : BitVec 16) (s : State) : Result := .next (branchIf 15 4 (disp.signExtend 24) s)

/-- JMP @ERn (R936). -/
def execJmpAtERn (ern : RegNum) (s : State) : Result := .next (setPc s ((getER s ern).setWidth 24))

/-- JMP @aa:24 (R937). -/
def execJmpAa24 (abs : BitVec 24) (s : State) : Result := .next (setPc s abs)

/-- JMP @@aa:8 (R938). -/
def execJmpMemAa8 (abs : BitVec 8) (s : State) : Result :=
  .next (setPc (beforeCycles (addressCycles s.cfg) s) (memIndirect abs s))

/-- BSR d:8 (R939). -/
def execBsrD8 (disp : BitVec 8) (s : State) : Result := .next (callTo 2 (nextPc s 2 + disp.signExtend 24) s)

/-- BSR d:16 (R940). -/
def execBsrD16 (disp : BitVec 16) (s : State) : Result := .next (callTo 4 (nextPc s 4 + disp.signExtend 24) s)

/-- JSR @ERn (R941). -/
def execJsrAtERn (ern : RegNum) (s : State) : Result := .next (callTo 2 ((getER s ern).setWidth 24) s)

/-- JSR @aa:24 (R942). -/
def execJsrAa24 (abs : BitVec 24) (s : State) : Result := .next (callTo 4 abs s)

/-- JSR @@aa:8 (R943). -/
def execJsrMemAa8 (abs : BitVec 8) (s : State) : Result :=
  .next (callTo 2 (memIndirect abs s) (beforeCycles (addressCycles s.cfg) s))

/-- RTS (R944). -/
def execRts (s : State) : Result := .next (setPc (dropPC s) (stackedPC s))

end Sys2Proof.Machine
end

