-- ==== Sys2Proof/Machine/Logic.lean ====
section
/-! DEFINITION. The meanings of AND, OR, XOR and NOT (43_logic, R300 to R321). -/

namespace Sys2Proof.Machine

/-- AND.B #xx:8,Rd (R301). -/
def execAndBImm8Rd (imm : BitVec 8) (rd : Reg8) (s : State) : Result :=
  .next (alterReg 2 (.b rd) (logicOp (· &&& ·) imm) s)

/-- AND.B Rs,Rd (R302). -/
def execAndBRsRd (rs rd : Reg8) (s : State) : Result :=
  .next (alterReg 2 (.b rd) (logicOp (· &&& ·) (Reg.get (.b rs) s)) s)

/-- AND.W #xx:16,Rd (R303). -/
def execAndWImm16Rd (imm : BitVec 16) (rd : Reg16) (s : State) : Result :=
  .next (alterReg 4 (.w rd) (logicOp (· &&& ·) imm) s)

/-- AND.W Rs,Rd (R304). -/
def execAndWRsRd (rs rd : Reg16) (s : State) : Result :=
  .next (alterReg 2 (.w rd) (logicOp (· &&& ·) (Reg.get (.w rs) s)) s)

/-- AND.L #xx:32,ERd (R305). -/
def execAndLImm32ERd (imm : BitVec 32) (erd : RegNum) (s : State) : Result :=
  .next (alterReg 6 (.l erd) (logicOp (· &&& ·) imm) s)

/-- AND.L ERs,ERd (R306). -/
def execAndLERsERd (ers erd : RegNum) (s : State) : Result :=
  .next (alterReg 4 (.l erd) (logicOp (· &&& ·) (Reg.get (.l ers) s)) s)

/-- OR.B #xx:8,Rd (R307). -/
def execOrBImm8Rd (imm : BitVec 8) (rd : Reg8) (s : State) : Result :=
  .next (alterReg 2 (.b rd) (logicOp (· ||| ·) imm) s)

/-- OR.B Rs,Rd (R308). -/
def execOrBRsRd (rs rd : Reg8) (s : State) : Result :=
  .next (alterReg 2 (.b rd) (logicOp (· ||| ·) (Reg.get (.b rs) s)) s)

/-- OR.W #xx:16,Rd (R309). -/
def execOrWImm16Rd (imm : BitVec 16) (rd : Reg16) (s : State) : Result :=
  .next (alterReg 4 (.w rd) (logicOp (· ||| ·) imm) s)

/-- OR.W Rs,Rd (R310). -/
def execOrWRsRd (rs rd : Reg16) (s : State) : Result :=
  .next (alterReg 2 (.w rd) (logicOp (· ||| ·) (Reg.get (.w rs) s)) s)

/-- OR.L #xx:32,ERd (R311). -/
def execOrLImm32ERd (imm : BitVec 32) (erd : RegNum) (s : State) : Result :=
  .next (alterReg 6 (.l erd) (logicOp (· ||| ·) imm) s)

/-- OR.L ERs,ERd (R312). -/
def execOrLERsERd (ers erd : RegNum) (s : State) : Result :=
  .next (alterReg 4 (.l erd) (logicOp (· ||| ·) (Reg.get (.l ers) s)) s)

/-- XOR.B #xx:8,Rd (R313). -/
def execXorBImm8Rd (imm : BitVec 8) (rd : Reg8) (s : State) : Result :=
  .next (alterReg 2 (.b rd) (logicOp (· ^^^ ·) imm) s)

/-- XOR.B Rs,Rd (R314). -/
def execXorBRsRd (rs rd : Reg8) (s : State) : Result :=
  .next (alterReg 2 (.b rd) (logicOp (· ^^^ ·) (Reg.get (.b rs) s)) s)

/-- XOR.W #xx:16,Rd (R315). -/
def execXorWImm16Rd (imm : BitVec 16) (rd : Reg16) (s : State) : Result :=
  .next (alterReg 4 (.w rd) (logicOp (· ^^^ ·) imm) s)

/-- XOR.W Rs,Rd (R316). -/
def execXorWRsRd (rs rd : Reg16) (s : State) : Result :=
  .next (alterReg 2 (.w rd) (logicOp (· ^^^ ·) (Reg.get (.w rs) s)) s)

/-- XOR.L #xx:32,ERd (R317). -/
def execXorLImm32ERd (imm : BitVec 32) (erd : RegNum) (s : State) : Result :=
  .next (alterReg 6 (.l erd) (logicOp (· ^^^ ·) imm) s)

/-- XOR.L ERs,ERd (R318). -/
def execXorLERsERd (ers erd : RegNum) (s : State) : Result :=
  .next (alterReg 4 (.l erd) (logicOp (· ^^^ ·) (Reg.get (.l ers) s)) s)

/-- NOT.B Rd (R319). -/
def execNotBRd (rd : Reg8) (s : State) : Result := .next (alterReg 2 (.b rd) notOp s)

/-- NOT.W Rd (R320). -/
def execNotWRd (rd : Reg16) (s : State) : Result := .next (alterReg 2 (.w rd) notOp s)

/-- NOT.L ERd (R321). -/
def execNotLERd (erd : RegNum) (s : State) : Result := .next (alterReg 2 (.l erd) notOp s)

end Sys2Proof.Machine
end

