-- ==== Sys2Proof/Machine/Move.lean ====
section
/-! DEFINITION. The meanings of data transfer instructions (40_data_transfer, R140 to R194). -/

namespace Sys2Proof.Machine

/-- LDM's loads: `count` registers from `r` downwards, from consecutive longwords at `a` upwards (R189). ER7 is not loaded
here: what it holds afterwards is not stated (D30). Its slot is passed over all the same, so with ER7 in the list ER6 comes
from `a + 4`: DEDUCED from R189's operation, R190 and vector DT-55, where R189's "as if ER7 were not in the list" could be
read as ER6 from `a` (log 26). -/
def loadRegs : Nat → RegNum → Long → State → State
  | 0, _, _, s => s
  | count + 1, r, a, s =>
    let s1 := beforeCycles 2 s
    loadRegs count (r - 1) (a + 4) (if r = sp then s1 else setER s1 r (read32 s a))

/-- LDM.L (R189): ER7 ends past the list, or at a free value when it is in the list (D30); its slot counts in
the layout of the others (DEDUCED; log 26). -/
def loadList (count : Nat) (highest : RegNum) (s : State) : State :=
  let base := getER s sp
  let s1 := loadRegs count highest base s
  advance 4 (if highest = sp then setER (drawn s1) sp (freeBits 32 s)
             else setER s1 sp (base + 4 * BitVec.ofNat 32 count))

/-- STM's stores: `count` registers from `r` upwards, each read after the decrement for its slot (R190). -/
def storeRegs : Nat → RegNum → State → State
  | 0, _, s => s
  | count + 1, r, s =>
    let s1 := lowerSp 4 s
    storeRegs count (r + 1) (write32 s1 (getER s1 sp) (getER s1 r))

/-- STM.L (R190). -/
def storeList (count : Nat) (lowest : RegNum) (s : State) : State := advance 4 (storeRegs count lowest s)

/-- MOV.B Rs,Rd (R141). -/
def execMovBRsRd (rs rd : Reg8) (s : State) : Result := .next (moveInto 2 (.b rd) (Reg.get (.b rs) s) s)

/-- MOV.W Rs,Rd (R142). -/
def execMovWRsRd (rs rd : Reg16) (s : State) : Result := .next (moveInto 2 (.w rd) (Reg.get (.w rs) s) s)

/-- MOV.L ERs,ERd (R143). -/
def execMovLERsERd (ers erd : RegNum) (s : State) : Result := .next (moveInto 2 (.l erd) (Reg.get (.l ers) s) s)

/-- MOV.B #xx:8,Rd (R144). -/
def execMovBImm8Rd (imm : BitVec 8) (rd : Reg8) (s : State) : Result := .next (moveInto 2 (.b rd) imm s)

/-- MOV.W #xx:16,Rd (R145). -/
def execMovWImm16Rd (imm : BitVec 16) (rd : Reg16) (s : State) : Result := .next (moveInto 4 (.w rd) imm s)

/-- MOV.L #xx:32,ERd (R146). -/
def execMovLImm32ERd (imm : BitVec 32) (erd : RegNum) (s : State) : Result := .next (moveInto 6 (.l erd) imm s)

/-- MOV.B @ERs,Rd (R147). -/
def execMovBAtERsRd (ers : RegNum) (rd : Reg8) (s : State) : Result := .next (moveLoad 2 (.ind ers) (.b rd) s)

/-- MOV.B @(d:16,ERs),Rd (R148). -/
def execMovBD16ERsRd (ers : RegNum) (disp : BitVec 16) (rd : Reg8) (s : State) : Result :=
  .next (moveLoad 4 (.disp16 ers disp) (.b rd) s)

/-- MOV.B @(d:32,ERs),Rd (R149). -/
def execMovBD32ERsRd (ers : RegNum) (disp : BitVec 32) (rd : Reg8) (s : State) : Result :=
  .next (moveLoad 8 (.disp32 ers disp) (.b rd) s)

/-- MOV.B @ERs+,Rd (R150). -/
def execMovBERsIncRd (ers : RegNum) (rd : Reg8) (s : State) : Result := .next (moveLoad 2 (.postInc ers) (.b rd) s)

/-- MOV.B @aa:8,Rd (R151). -/
def execMovBAa8Rd (abs : BitVec 8) (rd : Reg8) (s : State) : Result := .next (moveLoad 2 (.abs8 abs) (.b rd) s)

/-- MOV.B @aa:16,Rd (R152). -/
def execMovBAa16Rd (abs : BitVec 16) (rd : Reg8) (s : State) : Result := .next (moveLoad 4 (.abs16 abs) (.b rd) s)

/-- MOV.B @aa:32,Rd (R153). -/
def execMovBAa32Rd (abs : BitVec 32) (rd : Reg8) (s : State) : Result := .next (moveLoad 6 (.abs32 abs) (.b rd) s)

/-- MOV.W @ERs,Rd (R154). -/
def execMovWAtERsRd (ers : RegNum) (rd : Reg16) (s : State) : Result := .next (moveLoad 2 (.ind ers) (.w rd) s)

/-- MOV.W @(d:16,ERs),Rd (R155). -/
def execMovWD16ERsRd (ers : RegNum) (disp : BitVec 16) (rd : Reg16) (s : State) : Result :=
  .next (moveLoad 4 (.disp16 ers disp) (.w rd) s)

/-- MOV.W @(d:32,ERs),Rd (R156). -/
def execMovWD32ERsRd (ers : RegNum) (disp : BitVec 32) (rd : Reg16) (s : State) : Result :=
  .next (moveLoad 8 (.disp32 ers disp) (.w rd) s)

/-- MOV.W @ERs+,Rd (R157). -/
def execMovWERsIncRd (ers : RegNum) (rd : Reg16) (s : State) : Result := .next (moveLoad 2 (.postInc ers) (.w rd) s)

/-- MOV.W @aa:16,Rd (R158). -/
def execMovWAa16Rd (abs : BitVec 16) (rd : Reg16) (s : State) : Result := .next (moveLoad 4 (.abs16 abs) (.w rd) s)

/-- MOV.W @aa:32,Rd (R159). -/
def execMovWAa32Rd (abs : BitVec 32) (rd : Reg16) (s : State) : Result := .next (moveLoad 6 (.abs32 abs) (.w rd) s)

/-- MOV.L @ERs,ERd (R160). -/
def execMovLAtERsERd (ers erd : RegNum) (s : State) : Result := .next (moveLoad 4 (.ind ers) (.l erd) s)

/-- MOV.L @(d:16,ERs),ERd (R161). -/
def execMovLD16ERsERd (ers : RegNum) (disp : BitVec 16) (erd : RegNum) (s : State) : Result :=
  .next (moveLoad 6 (.disp16 ers disp) (.l erd) s)

/-- MOV.L @(d:32,ERs),ERd (R162). -/
def execMovLD32ERsERd (ers : RegNum) (disp : BitVec 32) (erd : RegNum) (s : State) : Result :=
  .next (moveLoad 10 (.disp32 ers disp) (.l erd) s)

/-- MOV.L @ERs+,ERd (R163). -/
def execMovLERsIncERd (ers erd : RegNum) (s : State) : Result := .next (moveLoad 4 (.postInc ers) (.l erd) s)

/-- MOV.L @aa:16,ERd (R164). -/
def execMovLAa16ERd (abs : BitVec 16) (erd : RegNum) (s : State) : Result :=
  .next (moveLoad 6 (.abs16 abs) (.l erd) s)

/-- MOV.L @aa:32,ERd (R165). -/
def execMovLAa32ERd (abs : BitVec 32) (erd : RegNum) (s : State) : Result :=
  .next (moveLoad 8 (.abs32 abs) (.l erd) s)

/-- MOV.B Rs,@ERd (R166). -/
def execMovBRsAtERd (rs : Reg8) (erd : RegNum) (s : State) : Result := .next (moveStore 2 (.b rs) (.ind erd) s)

/-- MOV.B Rs,@(d:16,ERd) (R167). -/
def execMovBRsD16ERd (rs : Reg8) (erd : RegNum) (disp : BitVec 16) (s : State) : Result :=
  .next (moveStore 4 (.b rs) (.disp16 erd disp) s)

/-- MOV.B Rs,@(d:32,ERd) (R168). -/
def execMovBRsD32ERd (rs : Reg8) (erd : RegNum) (disp : BitVec 32) (s : State) : Result :=
  .next (moveStore 8 (.b rs) (.disp32 erd disp) s)

/-- MOV.B Rs,@-ERd (R169). -/
def execMovBRsDecERd (rs : Reg8) (erd : RegNum) (s : State) : Result := .next (moveStore 2 (.b rs) (.preDec erd) s)

/-- MOV.B Rs,@aa:8 (R170). -/
def execMovBRsAa8 (rs : Reg8) (abs : BitVec 8) (s : State) : Result := .next (moveStore 2 (.b rs) (.abs8 abs) s)

/-- MOV.B Rs,@aa:16 (R171). -/
def execMovBRsAa16 (rs : Reg8) (abs : BitVec 16) (s : State) : Result := .next (moveStore 4 (.b rs) (.abs16 abs) s)

/-- MOV.B Rs,@aa:32 (R172). -/
def execMovBRsAa32 (rs : Reg8) (abs : BitVec 32) (s : State) : Result := .next (moveStore 6 (.b rs) (.abs32 abs) s)

/-- MOV.W Rs,@ERd (R173). -/
def execMovWRsAtERd (rs : Reg16) (erd : RegNum) (s : State) : Result := .next (moveStore 2 (.w rs) (.ind erd) s)

/-- MOV.W Rs,@(d:16,ERd) (R174). -/
def execMovWRsD16ERd (rs : Reg16) (erd : RegNum) (disp : BitVec 16) (s : State) : Result :=
  .next (moveStore 4 (.w rs) (.disp16 erd disp) s)

/-- MOV.W Rs,@(d:32,ERd) (R175). -/
def execMovWRsD32ERd (rs : Reg16) (erd : RegNum) (disp : BitVec 32) (s : State) : Result :=
  .next (moveStore 8 (.w rs) (.disp32 erd disp) s)

/-- MOV.W Rs,@-ERd (R176). -/
def execMovWRsDecERd (rs : Reg16) (erd : RegNum) (s : State) : Result := .next (moveStore 2 (.w rs) (.preDec erd) s)

/-- MOV.W Rs,@aa:16 (R177). -/
def execMovWRsAa16 (rs : Reg16) (abs : BitVec 16) (s : State) : Result := .next (moveStore 4 (.w rs) (.abs16 abs) s)

/-- MOV.W Rs,@aa:32 (R178). -/
def execMovWRsAa32 (rs : Reg16) (abs : BitVec 32) (s : State) : Result := .next (moveStore 6 (.w rs) (.abs32 abs) s)

/-- MOV.L ERs,@ERd (R179). -/
def execMovLERsAtERd (ers erd : RegNum) (s : State) : Result := .next (moveStore 4 (.l ers) (.ind erd) s)

/-- MOV.L ERs,@(d:16,ERd) (R180). -/
def execMovLERsD16ERd (ers erd : RegNum) (disp : BitVec 16) (s : State) : Result :=
  .next (moveStore 6 (.l ers) (.disp16 erd disp) s)

/-- MOV.L ERs,@(d:32,ERd) (R181). -/
def execMovLERsD32ERd (ers erd : RegNum) (disp : BitVec 32) (s : State) : Result :=
  .next (moveStore 10 (.l ers) (.disp32 erd disp) s)

/-- MOV.L ERs,@-ERd (R182). -/
def execMovLERsDecERd (ers erd : RegNum) (s : State) : Result := .next (moveStore 4 (.l ers) (.preDec erd) s)

/-- MOV.L ERs,@aa:16 (R183). -/
def execMovLERsAa16 (ers : RegNum) (abs : BitVec 16) (s : State) : Result :=
  .next (moveStore 6 (.l ers) (.abs16 abs) s)

/-- MOV.L ERs,@aa:32 (R184). -/
def execMovLERsAa32 (ers : RegNum) (abs : BitVec 32) (s : State) : Result :=
  .next (moveStore 8 (.l ers) (.abs32 abs) s)

/-- POP.W Rn (R185). -/
def execPopWRn (rn : Reg16) (s : State) : Result := .next (moveLoad 2 (.postInc sp) (.w rn) s)

/-- POP.L ERn (R186). -/
def execPopLERn (ern : RegNum) (s : State) : Result := .next (moveLoad 4 (.postInc sp) (.l ern) s)

/-- PUSH.W Rn (R187). -/
def execPushWRn (rn : Reg16) (s : State) : Result := .next (moveStore 2 (.w rn) (.preDec sp) s)

/-- PUSH.L ERn (R188). -/
def execPushLERn (ern : RegNum) (s : State) : Result := .next (moveStore 4 (.l ern) (.preDec sp) s)

/-- LDM.L @SP+,(ERn-ERn+1) (R189). -/
def execLdmL2 (rn : RegNum) (s : State) : Result :=
  if ldmListed 2 rn then .next (loadList 2 rn s) else .refused .undefinedEncoding

/-- LDM.L @SP+,(ERn-ERn+2) (R189). -/
def execLdmL3 (rn : RegNum) (s : State) : Result :=
  if ldmListed 3 rn then .next (loadList 3 rn s) else .refused .undefinedEncoding

/-- LDM.L @SP+,(ERn-ERn+3) (R189). -/
def execLdmL4 (rn : RegNum) (s : State) : Result :=
  if ldmListed 4 rn then .next (loadList 4 rn s) else .refused .undefinedEncoding

/-- STM.L (ERn-ERn+1),@-SP (R190). -/
def execStmL2 (rn : RegNum) (s : State) : Result :=
  if stmListed 2 rn then .next (storeList 2 rn s) else .refused .undefinedEncoding

/-- STM.L (ERn-ERn+2),@-SP (R190). -/
def execStmL3 (rn : RegNum) (s : State) : Result :=
  if stmListed 3 rn then .next (storeList 3 rn s) else .refused .undefinedEncoding

/-- STM.L (ERn-ERn+3),@-SP (R190). -/
def execStmL4 (rn : RegNum) (s : State) : Result :=
  if stmListed 4 rn then .next (storeList 4 rn s) else .refused .undefinedEncoding

/-- MOVFPE @aa:16,Rd (R191). -/
def execMovfpeAa16Rd (abs : BitVec 16) (rd : Reg8) (s : State) : Result := .next (moveLoad 4 (.abs16 abs) (.b rd) s)

/-- MOVTPE Rs,@aa:16 (R192). -/
def execMovtpeRsAa16 (rs : Reg8) (abs : BitVec 16) (s : State) : Result := .next (moveStore 4 (.b rs) (.abs16 abs) s)

end Sys2Proof.Machine
end

