-- ==== Sys2Proof/Machine/MulDiv.lean ====
section
/-! DEFINITION. The meanings of multiply, divide, extend, TAS and multiply-accumulate (42_muldiv_ext_tas_mac, R260 to R287). -/

namespace Sys2Proof.Machine

/-- The exact unsigned product in `n` bits (R261, R262). -/
def mulUnsigned {w : Nat} (n : Nat) (a b : BitVec w) : BitVec n := a.setWidth n * b.setWidth n

/-- The exact signed product in `n` bits (R263, R264). -/
def mulSigned {w : Nat} (n : Nat) (a b : BitVec w) : BitVec n := a.signExtend n * b.signExtend n

/-- MULXS writes its product and N and Z from it (R263, R264). -/
def putProduct {n : Nat} (len : BitVec 24) (rd : Reg n) (p : BitVec n) (s : State) : State :=
  advance len (setCcr (rd.put p s) (setNZ p s.ccr))

/-- The remainder above the quotient, each `w` bits wide (R265). -/
def remQuot {w : Nat} (n : Nat) (r q : BitVec w) : BitVec n := r.setWidth n <<< w ||| q.setWidth n

/-- DIVXU (R266, R267): `none` for a divisor 0 and for a quotient that does not fit. -/
def divUnsigned {n w : Nat} (d : BitVec n) (v : BitVec w) : Option (BitVec n) :=
  let q := d.toNat / v.toNat
  if v = 0#w ∨ 2 ^ w ≤ q then none else some (remQuot n (BitVec.ofNat w (d.toNat % v.toNat)) (BitVec.ofNat w q))

/-- The flags of DIVXU (R266, R267): they depend on the divisor only. -/
def divUnsignedFlags {n w : Nat} (_ : BitVec n) (v : BitVec w) (c : Ccr) : Ccr := setNZ v c

/-- DIVXS (R268, R269): rounded toward zero; `none` for a divisor 0 and for a quotient that does not fit. -/
def divSigned {n w : Nat} (d : BitVec n) (v : BitVec w) : Option (BitVec n) :=
  let q := d.toInt.tdiv v.toInt
  if v = 0#w ∨ q < -2 ^ (w - 1) ∨ 2 ^ (w - 1) ≤ q then none
  else some (remQuot n (BitVec.ofInt w (d.toInt.tmod v.toInt)) (BitVec.ofInt w q))

/-- The flags of DIVXS (R268, R269): N is set when the signs differ, Z when the divisor is 0. -/
def divSignedFlags {n w : Nat} (d : BitVec n) (v : BitVec w) (c : Ccr) : Ccr :=
  { c with n := d.msb ^^ v.msb, z := v == 0#w }

/-- A division writes its result, or a free value where valid results are not assured (R265, D17; log 9), and its flags. -/
def putQuotient {n : Nat} (len : BitVec 24) (rd : Reg n) (result : Option (BitVec n)) (flags : Ccr) (s : State) : State :=
  match result with
  | some v => advance len (setCcr (rd.put v s) flags)
  | none => advance len (setCcr (rd.put (freeBits n s) (drawn s)) flags)

/-- EXTU (R270, R271): the lower `half` bits, zero-extended. -/
def extuOp {w : Nat} (half : Nat) (d : BitVec w) (c : Ccr) : BitVec w × Ccr :=
  let r := (d.setWidth half).setWidth w
  (r, setNZV0 r c)

/-- EXTS (R272, R273): the lower `half` bits, sign-extended. -/
def extsOp {w : Nat} (half : Nat) (d : BitVec w) (c : Ccr) : BitVec w × Ccr :=
  let r := (d.setWidth half).signExtend w
  (r, setNZV0 r c)

/-- TAS (R278): the flags are those of the byte as read. Between its two bus cycles the environment may act (R83). -/
def testAndSet (erd : RegNum) (s : State) : State :=
  let v := read8 s (getER s erd)
  advance 4 (setCcr (write8 (beforeCycle s) (getER s erd) (v ||| 0x80#8)) (setNZV0 v s.ccr))

/-- The four MAC instruction types exist on the H8S/2600 only (R115, D2; log 12). -/
def withMac (t : State) (s : State) : Result :=
  match s.cfg.cpu with
  | .h8s2600 => .next t
  | .h8s2000 => .refused .macGroupOnH8S2000

/-- The saturating accumulation (R279, R280, D32; log 24). -/
def macSaturating (p : Int) (s : State) : State :=
  let sum := s.macl.toInt + p
  let macl : Long :=
    if 2 ^ 31 ≤ sum then 0x7FFFFFFF#32 else if sum < -2 ^ 31 then 0x80000000#32 else BitVec.ofInt 32 sum
  let v := s.vMult || decide (2 ^ 31 ≤ sum ∨ sum < -2 ^ 31)
  { s with
    macl := macl
    vMult := v
    mach := s.mach.extractLsb' 1 9 ++ BitVec.ofBool v
    nMult := macl.msb
    zMult := macl == 0#32 }

/-- The non-saturating accumulation in 42 bits (R279, R280, D31; log 24). -/
def macWrapping (p : Int) (s : State) : State :=
  let sum := (s.mach ++ s.macl).toInt + p
  let acc := BitVec.ofInt 42 sum
  { s with
    mach := acc.extractLsb' 32 10
    macl := acc.extractLsb' 0 32
    vMult := s.vMult || decide (2 ^ 41 ≤ sum ∨ sum < -2 ^ 41)
    nMult := acc.msb
    zMult := acc == 0#42 }

/-- MAC (R279): the second address is read after the first register has been raised. -/
def multiplyAccumulate (ern erm : RegNum) (s : State) : State :=
  let x := read16 s (getER s ern)
  let s1 := setER (beforeCycle s) ern (getER s ern + 2)
  let y := read16 s1 (getER s1 erm)
  let s2 := setER (beforeCycle s1) erm (getER s1 erm + 2)
  let p := x.toInt * y.toInt
  advance 4 (if s.env.macs then macSaturating p s2 else macWrapping p s2)

/-- STMAC (R284, R285): N, Z and V are the multiplier's flags. -/
def storeMac (erd : RegNum) (v : Long) (s : State) : State :=
  advance 2 (setCcr (setER s erd v) { s.ccr with n := s.nMult, z := s.zMult, v := s.vMult })

/-- MULXU.B Rs,Rd (R261). -/
def execMulxuBRsRd (rs : Reg8) (rd : Reg16) (s : State) : Result :=
  .next (advance 2 (setReg16 s rd (mulUnsigned 16 (getReg8 s rs) ((getReg16 s rd).setWidth 8))))

/-- MULXU.W Rs,ERd (R262). -/
def execMulxuWRsERd (rs : Reg16) (erd : RegNum) (s : State) : Result :=
  .next (advance 2 (setER s erd (mulUnsigned 32 (getReg16 s rs) ((getER s erd).setWidth 16))))

/-- MULXS.B Rs,Rd (R263). -/
def execMulxsBRsRd (rs : Reg8) (rd : Reg16) (s : State) : Result :=
  .next (putProduct 4 (.w rd) (mulSigned 16 (getReg8 s rs) ((getReg16 s rd).setWidth 8)) s)

/-- MULXS.W Rs,ERd (R264). -/
def execMulxsWRsERd (rs : Reg16) (erd : RegNum) (s : State) : Result :=
  .next (putProduct 4 (.l erd) (mulSigned 32 (getReg16 s rs) ((getER s erd).setWidth 16)) s)

/-- DIVXU.B Rs,Rd (R266). -/
def execDivxuBRsRd (rs : Reg8) (rd : Reg16) (s : State) : Result :=
  .next (putQuotient 2 (.w rd) (divUnsigned (getReg16 s rd) (getReg8 s rs)) (divUnsignedFlags (getReg16 s rd) (getReg8 s rs) s.ccr) s)

/-- DIVXU.W Rs,ERd (R267). -/
def execDivxuWRsERd (rs : Reg16) (erd : RegNum) (s : State) : Result :=
  .next (putQuotient 2 (.l erd) (divUnsigned (getER s erd) (getReg16 s rs)) (divUnsignedFlags (getER s erd) (getReg16 s rs) s.ccr) s)

/-- DIVXS.B Rs,Rd (R268). -/
def execDivxsBRsRd (rs : Reg8) (rd : Reg16) (s : State) : Result :=
  .next (putQuotient 4 (.w rd) (divSigned (getReg16 s rd) (getReg8 s rs)) (divSignedFlags (getReg16 s rd) (getReg8 s rs) s.ccr) s)

/-- DIVXS.W Rs,ERd (R269). -/
def execDivxsWRsERd (rs : Reg16) (erd : RegNum) (s : State) : Result :=
  .next (putQuotient 4 (.l erd) (divSigned (getER s erd) (getReg16 s rs)) (divSignedFlags (getER s erd) (getReg16 s rs) s.ccr) s)

/-- EXTU.W Rd (R270). -/
def execExtuWRd (rd : Reg16) (s : State) : Result := .next (alterReg 2 (.w rd) (extuOp 8) s)

/-- EXTU.L ERd (R271). -/
def execExtuLERd (erd : RegNum) (s : State) : Result := .next (alterReg 2 (.l erd) (extuOp 16) s)

/-- EXTS.W Rd (R272). -/
def execExtsWRd (rd : Reg16) (s : State) : Result := .next (alterReg 2 (.w rd) (extsOp 8) s)

/-- EXTS.L ERd (R273). -/
def execExtsLERd (erd : RegNum) (s : State) : Result := .next (alterReg 2 (.l erd) (extsOp 16) s)

/-- TAS @ERd (R278). -/
def execTasAtERd (erd : RegNum) (s : State) : Result :=
  if tasRegister erd then .next (testAndSet erd s) else .refused .undefinedEncoding

/-- MAC @ERn+,@ERm+ (R279). -/
def execMacERnIncERmInc (ern erm : RegNum) (s : State) : Result := withMac (multiplyAccumulate ern erm s) s

/-- CLRMAC (R281); N-MULT and Z-MULT are retained (C6; DEDUCED, log 34). -/
def execClrmac (s : State) : Result := withMac (advance 2 { s with mach := 0, macl := 0, vMult := false }) s

/-- LDMAC ERs,MACH (R282); N-MULT and Z-MULT are retained (C6; DEDUCED, log 34). -/
def execLdmacERsMACH (ers : RegNum) (s : State) : Result :=
  withMac (advance 2 { s with mach := (getER s ers).setWidth 10, vMult := false }) s

/-- LDMAC ERs,MACL (R283); N-MULT and Z-MULT are retained (C6; DEDUCED, log 34). -/
def execLdmacERsMACL (ers : RegNum) (s : State) : Result :=
  withMac (advance 2 { s with macl := getER s ers, vMult := false }) s

/-- STMAC MACH,ERd (R284). -/
def execStmacMACHERd (erd : RegNum) (s : State) : Result := withMac (storeMac erd (s.mach.signExtend 32) s) s

/-- STMAC MACL,ERd (R285). -/
def execStmacMACLERd (erd : RegNum) (s : State) : Result := withMac (storeMac erd s.macl s) s

end Sys2Proof.Machine
end

