-- ==== Sys2Proof/Machine/Shift.lean ====
section
/-! DEFINITION. The meanings of shifts and rotates (44_shift, R600 to R649). -/

namespace Sys2Proof.Machine

/-- SHAL.B Rd (R602). -/
def execShalBRd (rd : Reg8) (s : State) : Result := .next (alterReg 2 (.b rd) (shalOp 1) s)

/-- SHAL.B #2,Rd (R603). -/
def execShalBBy2Rd (rd : Reg8) (s : State) : Result := .next (alterReg 2 (.b rd) (shalOp 2) s)

/-- SHAL.W Rd (R604). -/
def execShalWRd (rd : Reg16) (s : State) : Result := .next (alterReg 2 (.w rd) (shalOp 1) s)

/-- SHAL.W #2,Rd (R605). -/
def execShalWBy2Rd (rd : Reg16) (s : State) : Result := .next (alterReg 2 (.w rd) (shalOp 2) s)

/-- SHAL.L ERd (R606). -/
def execShalLERd (erd : RegNum) (s : State) : Result := .next (alterReg 2 (.l erd) (shalOp 1) s)

/-- SHAL.L #2,ERd (R607). -/
def execShalLBy2ERd (erd : RegNum) (s : State) : Result := .next (alterReg 2 (.l erd) (shalOp 2) s)

/-- SHAR.B Rd (R608). -/
def execSharBRd (rd : Reg8) (s : State) : Result := .next (alterReg 2 (.b rd) (sharOp 1) s)

/-- SHAR.B #2,Rd (R609). -/
def execSharBBy2Rd (rd : Reg8) (s : State) : Result := .next (alterReg 2 (.b rd) (sharOp 2) s)

/-- SHAR.W Rd (R610). -/
def execSharWRd (rd : Reg16) (s : State) : Result := .next (alterReg 2 (.w rd) (sharOp 1) s)

/-- SHAR.W #2,Rd (R611). -/
def execSharWBy2Rd (rd : Reg16) (s : State) : Result := .next (alterReg 2 (.w rd) (sharOp 2) s)

/-- SHAR.L ERd (R612). -/
def execSharLERd (erd : RegNum) (s : State) : Result := .next (alterReg 2 (.l erd) (sharOp 1) s)

/-- SHAR.L #2,ERd (R613). -/
def execSharLBy2ERd (erd : RegNum) (s : State) : Result := .next (alterReg 2 (.l erd) (sharOp 2) s)

/-- SHLL.B Rd (R614). -/
def execShllBRd (rd : Reg8) (s : State) : Result := .next (alterReg 2 (.b rd) (shllOp 1) s)

/-- SHLL.B #2,Rd (R615). -/
def execShllBBy2Rd (rd : Reg8) (s : State) : Result := .next (alterReg 2 (.b rd) (shllOp 2) s)

/-- SHLL.W Rd (R616). -/
def execShllWRd (rd : Reg16) (s : State) : Result := .next (alterReg 2 (.w rd) (shllOp 1) s)

/-- SHLL.W #2,Rd (R617). -/
def execShllWBy2Rd (rd : Reg16) (s : State) : Result := .next (alterReg 2 (.w rd) (shllOp 2) s)

/-- SHLL.L ERd (R618). -/
def execShllLERd (erd : RegNum) (s : State) : Result := .next (alterReg 2 (.l erd) (shllOp 1) s)

/-- SHLL.L #2,ERd (R619). -/
def execShllLBy2ERd (erd : RegNum) (s : State) : Result := .next (alterReg 2 (.l erd) (shllOp 2) s)

/-- SHLR.B Rd (R620). -/
def execShlrBRd (rd : Reg8) (s : State) : Result := .next (alterReg 2 (.b rd) (shlrOp 1) s)

/-- SHLR.B #2,Rd (R621). -/
def execShlrBBy2Rd (rd : Reg8) (s : State) : Result := .next (alterReg 2 (.b rd) (shlrOp 2) s)

/-- SHLR.W Rd (R622). -/
def execShlrWRd (rd : Reg16) (s : State) : Result := .next (alterReg 2 (.w rd) (shlrOp 1) s)

/-- SHLR.W #2,Rd (R623). -/
def execShlrWBy2Rd (rd : Reg16) (s : State) : Result := .next (alterReg 2 (.w rd) (shlrOp 2) s)

/-- SHLR.L ERd (R624). -/
def execShlrLERd (erd : RegNum) (s : State) : Result := .next (alterReg 2 (.l erd) (shlrOp 1) s)

/-- SHLR.L #2,ERd (R625). -/
def execShlrLBy2ERd (erd : RegNum) (s : State) : Result := .next (alterReg 2 (.l erd) (shlrOp 2) s)

/-- ROTL.B Rd (R626). -/
def execRotlBRd (rd : Reg8) (s : State) : Result := .next (alterReg 2 (.b rd) (rotlOp 1) s)

/-- ROTL.B #2,Rd (R627). -/
def execRotlBBy2Rd (rd : Reg8) (s : State) : Result := .next (alterReg 2 (.b rd) (rotlOp 2) s)

/-- ROTL.W Rd (R628). -/
def execRotlWRd (rd : Reg16) (s : State) : Result := .next (alterReg 2 (.w rd) (rotlOp 1) s)

/-- ROTL.W #2,Rd (R629). -/
def execRotlWBy2Rd (rd : Reg16) (s : State) : Result := .next (alterReg 2 (.w rd) (rotlOp 2) s)

/-- ROTL.L ERd (R630). -/
def execRotlLERd (erd : RegNum) (s : State) : Result := .next (alterReg 2 (.l erd) (rotlOp 1) s)

/-- ROTL.L #2,ERd (R631). -/
def execRotlLBy2ERd (erd : RegNum) (s : State) : Result := .next (alterReg 2 (.l erd) (rotlOp 2) s)

/-- ROTR.B Rd (R632). -/
def execRotrBRd (rd : Reg8) (s : State) : Result := .next (alterReg 2 (.b rd) (rotrOp 1) s)

/-- ROTR.B #2,Rd (R633). -/
def execRotrBBy2Rd (rd : Reg8) (s : State) : Result := .next (alterReg 2 (.b rd) (rotrOp 2) s)

/-- ROTR.W Rd (R634). -/
def execRotrWRd (rd : Reg16) (s : State) : Result := .next (alterReg 2 (.w rd) (rotrOp 1) s)

/-- ROTR.W #2,Rd (R635). -/
def execRotrWBy2Rd (rd : Reg16) (s : State) : Result := .next (alterReg 2 (.w rd) (rotrOp 2) s)

/-- ROTR.L ERd (R636). -/
def execRotrLERd (erd : RegNum) (s : State) : Result := .next (alterReg 2 (.l erd) (rotrOp 1) s)

/-- ROTR.L #2,ERd (R637). -/
def execRotrLBy2ERd (erd : RegNum) (s : State) : Result := .next (alterReg 2 (.l erd) (rotrOp 2) s)

/-- ROTXL.B Rd (R638). -/
def execRotxlBRd (rd : Reg8) (s : State) : Result := .next (alterReg 2 (.b rd) (rotxlOp 1) s)

/-- ROTXL.B #2,Rd (R639). -/
def execRotxlBBy2Rd (rd : Reg8) (s : State) : Result := .next (alterReg 2 (.b rd) (rotxlOp 2) s)

/-- ROTXL.W Rd (R640). -/
def execRotxlWRd (rd : Reg16) (s : State) : Result := .next (alterReg 2 (.w rd) (rotxlOp 1) s)

/-- ROTXL.W #2,Rd (R641). -/
def execRotxlWBy2Rd (rd : Reg16) (s : State) : Result := .next (alterReg 2 (.w rd) (rotxlOp 2) s)

/-- ROTXL.L ERd (R642). -/
def execRotxlLERd (erd : RegNum) (s : State) : Result := .next (alterReg 2 (.l erd) (rotxlOp 1) s)

/-- ROTXL.L #2,ERd (R643). -/
def execRotxlLBy2ERd (erd : RegNum) (s : State) : Result := .next (alterReg 2 (.l erd) (rotxlOp 2) s)

/-- ROTXR.B Rd (R644). -/
def execRotxrBRd (rd : Reg8) (s : State) : Result := .next (alterReg 2 (.b rd) (rotxrOp 1) s)

/-- ROTXR.B #2,Rd (R645). -/
def execRotxrBBy2Rd (rd : Reg8) (s : State) : Result := .next (alterReg 2 (.b rd) (rotxrOp 2) s)

/-- ROTXR.W Rd (R646). -/
def execRotxrWRd (rd : Reg16) (s : State) : Result := .next (alterReg 2 (.w rd) (rotxrOp 1) s)

/-- ROTXR.W #2,Rd (R647). -/
def execRotxrWBy2Rd (rd : Reg16) (s : State) : Result := .next (alterReg 2 (.w rd) (rotxrOp 2) s)

/-- ROTXR.L ERd (R648). -/
def execRotxrLERd (erd : RegNum) (s : State) : Result := .next (alterReg 2 (.l erd) (rotxrOp 1) s)

/-- ROTXR.L #2,ERd (R649). -/
def execRotxrLBy2ERd (erd : RegNum) (s : State) : Result := .next (alterReg 2 (.l erd) (rotxrOp 2) s)

end Sys2Proof.Machine
end

