-- ==== Sys2Proof/Machine/System.lean ====
section
/-! DEFINITION. The meanings of system control (48_system, R800 to R855). -/

namespace Sys2Proof.Machine

/-- TRAPA #x:2 (R804). -/
def execTrapa (imm : BitVec 2) (s : State) : Result := .next (takeException (nextPc s 2) (8 + imm.toNat) s.exr s)

/-- RTE (R805). -/
def execRte (s : State) : Result := .next (returnFromException s)

/-- SLEEP (R806). -/
def execSleep (s : State) : Result :=
  .next (advance 2 { s with procState := if s.env.ssby then .softwareStandby else .sleep })

/-- NOP (R807). -/
def execNop (s : State) : Result := .next (advance 2 s)

/-- LDC.B #xx:8,CCR (R810). -/
def execLdcBImm8CCR (imm : BitVec 8) (s : State) : Result := .next (loadCcr 2 imm s)

/-- LDC.B #xx:8,EXR (R811). -/
def execLdcBImm8EXR (imm : BitVec 8) (s : State) : Result := .next (loadExr 4 imm s)

/-- LDC.B Rs,CCR (R812). -/
def execLdcBRsCCR (rs : Reg8) (s : State) : Result := .next (loadCcr 2 (getReg8 s rs) s)

/-- LDC.B Rs,EXR (R813). -/
def execLdcBRsEXR (rs : Reg8) (s : State) : Result := .next (loadExr 2 (getReg8 s rs) s)

/-- LDC.W @ERs,CCR (R814). -/
def execLdcWAtERsCCR (ers : RegNum) (s : State) : Result := .next (loadControl loadCcr 4 (.ind ers) s)

/-- LDC.W @(d:16,ERs),CCR (R815). -/
def execLdcWD16ERsCCR (ers : RegNum) (disp : BitVec 16) (s : State) : Result :=
  .next (loadControl loadCcr 6 (.disp16 ers disp) s)

/-- LDC.W @(d:32,ERs),CCR (R816). -/
def execLdcWD32ERsCCR (ers : RegNum) (disp : BitVec 32) (s : State) : Result :=
  .next (loadControl loadCcr 10 (.disp32 ers disp) s)

/-- LDC.W @ERs+,CCR (R817). -/
def execLdcWERsIncCCR (ers : RegNum) (s : State) : Result := .next (loadControl loadCcr 4 (.postInc ers) s)

/-- LDC.W @aa:16,CCR (R818). -/
def execLdcWAa16CCR (abs : BitVec 16) (s : State) : Result := .next (loadControl loadCcr 6 (.abs16 abs) s)

/-- LDC.W @aa:32,CCR (R819). -/
def execLdcWAa32CCR (abs : BitVec 32) (s : State) : Result := .next (loadControl loadCcr 8 (.abs32 abs) s)

/-- LDC.W @ERs,EXR (R820). -/
def execLdcWAtERsEXR (ers : RegNum) (s : State) : Result := .next (loadControl loadExr 4 (.ind ers) s)

/-- LDC.W @(d:16,ERs),EXR (R821). -/
def execLdcWD16ERsEXR (ers : RegNum) (disp : BitVec 16) (s : State) : Result :=
  .next (loadControl loadExr 6 (.disp16 ers disp) s)

/-- LDC.W @(d:32,ERs),EXR (R822). -/
def execLdcWD32ERsEXR (ers : RegNum) (disp : BitVec 32) (s : State) : Result :=
  .next (loadControl loadExr 10 (.disp32 ers disp) s)

/-- LDC.W @ERs+,EXR (R823). -/
def execLdcWERsIncEXR (ers : RegNum) (s : State) : Result := .next (loadControl loadExr 4 (.postInc ers) s)

/-- LDC.W @aa:16,EXR (R824). -/
def execLdcWAa16EXR (abs : BitVec 16) (s : State) : Result := .next (loadControl loadExr 6 (.abs16 abs) s)

/-- LDC.W @aa:32,EXR (R825). -/
def execLdcWAa32EXR (abs : BitVec 32) (s : State) : Result := .next (loadControl loadExr 8 (.abs32 abs) s)

/-- STC.B CCR,Rd (R830). -/
def execStcBCCRRd (rd : Reg8) (s : State) : Result := .next (advance 2 (setReg8 s rd s.ccr.toByte))

/-- STC.B EXR,Rd (R831). -/
def execStcBEXRRd (rd : Reg8) (s : State) : Result := .next (advance 2 (setReg8 s rd s.exr.toByte))

/-- STC.W CCR,@ERd (R832). -/
def execStcWCCRAtERd (erd : RegNum) (s : State) : Result := .next (storeControl 4 s.ccr.toByte (.ind erd) s)

/-- STC.W CCR,@(d:16,ERd) (R833). -/
def execStcWCCRD16ERd (erd : RegNum) (disp : BitVec 16) (s : State) : Result :=
  .next (storeControl 6 s.ccr.toByte (.disp16 erd disp) s)

/-- STC.W CCR,@(d:32,ERd) (R834). -/
def execStcWCCRD32ERd (erd : RegNum) (disp : BitVec 32) (s : State) : Result :=
  .next (storeControl 10 s.ccr.toByte (.disp32 erd disp) s)

/-- STC.W CCR,@-ERd (R835). -/
def execStcWCCRDecERd (erd : RegNum) (s : State) : Result := .next (storeControl 4 s.ccr.toByte (.preDec erd) s)

/-- STC.W CCR,@aa:16 (R836). -/
def execStcWCCRAa16 (abs : BitVec 16) (s : State) : Result := .next (storeControl 6 s.ccr.toByte (.abs16 abs) s)

/-- STC.W CCR,@aa:32 (R837). -/
def execStcWCCRAa32 (abs : BitVec 32) (s : State) : Result := .next (storeControl 8 s.ccr.toByte (.abs32 abs) s)

/-- STC.W EXR,@ERd (R838). -/
def execStcWEXRAtERd (erd : RegNum) (s : State) : Result := .next (storeControl 4 s.exr.toByte (.ind erd) s)

/-- STC.W EXR,@(d:16,ERd) (R839). -/
def execStcWEXRD16ERd (erd : RegNum) (disp : BitVec 16) (s : State) : Result :=
  .next (storeControl 6 s.exr.toByte (.disp16 erd disp) s)

/-- STC.W EXR,@(d:32,ERd) (R840). -/
def execStcWEXRD32ERd (erd : RegNum) (disp : BitVec 32) (s : State) : Result :=
  .next (storeControl 10 s.exr.toByte (.disp32 erd disp) s)

/-- STC.W EXR,@-ERd (R841). -/
def execStcWEXRDecERd (erd : RegNum) (s : State) : Result := .next (storeControl 4 s.exr.toByte (.preDec erd) s)

/-- STC.W EXR,@aa:16 (R842). -/
def execStcWEXRAa16 (abs : BitVec 16) (s : State) : Result := .next (storeControl 6 s.exr.toByte (.abs16 abs) s)

/-- STC.W EXR,@aa:32 (R843). -/
def execStcWEXRAa32 (abs : BitVec 32) (s : State) : Result := .next (storeControl 8 s.exr.toByte (.abs32 abs) s)

/-- ANDC #xx:8,CCR (R850). -/
def execAndcImm8CCR (imm : BitVec 8) (s : State) : Result := .next (loadCcr 2 (s.ccr.toByte &&& imm) s)

/-- ANDC #xx:8,EXR (R851). -/
def execAndcImm8EXR (imm : BitVec 8) (s : State) : Result := .next (loadExr 4 (s.exr.toByte &&& imm) s)

/-- ORC #xx:8,CCR (R852). -/
def execOrcImm8CCR (imm : BitVec 8) (s : State) : Result := .next (loadCcr 2 (s.ccr.toByte ||| imm) s)

/-- ORC #xx:8,EXR (R853). -/
def execOrcImm8EXR (imm : BitVec 8) (s : State) : Result := .next (loadExr 4 (s.exr.toByte ||| imm) s)

/-- XORC #xx:8,CCR (R854). -/
def execXorcImm8CCR (imm : BitVec 8) (s : State) : Result := .next (loadCcr 2 (s.ccr.toByte ^^^ imm) s)

/-- XORC #xx:8,EXR (R855). -/
def execXorcImm8EXR (imm : BitVec 8) (s : State) : Result := .next (loadExr 4 (s.exr.toByte ^^^ imm) s)

end Sys2Proof.Machine
end

