-- ==== Sys2Proof/Machine/Dispatch.lean ====
section
/-! DEFINITION. `exec`: one arm per instruction, each one call of its meaning. -/

namespace Sys2Proof.Machine

def exec (i : Instr) (s : State) : Host.Outcome State Fault Refusal :=
  match i with
  | .movBRsRd rs rd => Sys2Proof.Machine.execMovBRsRd rs rd s
  | .movWRsRd rs rd => Sys2Proof.Machine.execMovWRsRd rs rd s
  | .movLERsERd ers erd => Sys2Proof.Machine.execMovLERsERd ers erd s
  | .movBImm8Rd imm rd => Sys2Proof.Machine.execMovBImm8Rd imm rd s
  | .movWImm16Rd imm rd => Sys2Proof.Machine.execMovWImm16Rd imm rd s
  | .movLImm32ERd imm erd => Sys2Proof.Machine.execMovLImm32ERd imm erd s
  | .movBAtERsRd ers rd => Sys2Proof.Machine.execMovBAtERsRd ers rd s
  | .movBD16ERsRd ers disp rd => Sys2Proof.Machine.execMovBD16ERsRd ers disp rd s
  | .movBD32ERsRd ers disp rd => Sys2Proof.Machine.execMovBD32ERsRd ers disp rd s
  | .movBERsIncRd ers rd => Sys2Proof.Machine.execMovBERsIncRd ers rd s
  | .movBAa8Rd abs rd => Sys2Proof.Machine.execMovBAa8Rd abs rd s
  | .movBAa16Rd abs rd => Sys2Proof.Machine.execMovBAa16Rd abs rd s
  | .movBAa32Rd abs rd => Sys2Proof.Machine.execMovBAa32Rd abs rd s
  | .movWAtERsRd ers rd => Sys2Proof.Machine.execMovWAtERsRd ers rd s
  | .movWD16ERsRd ers disp rd => Sys2Proof.Machine.execMovWD16ERsRd ers disp rd s
  | .movWD32ERsRd ers disp rd => Sys2Proof.Machine.execMovWD32ERsRd ers disp rd s
  | .movWERsIncRd ers rd => Sys2Proof.Machine.execMovWERsIncRd ers rd s
  | .movWAa16Rd abs rd => Sys2Proof.Machine.execMovWAa16Rd abs rd s
  | .movWAa32Rd abs rd => Sys2Proof.Machine.execMovWAa32Rd abs rd s
  | .movLAtERsERd ers erd => Sys2Proof.Machine.execMovLAtERsERd ers erd s
  | .movLD16ERsERd ers disp erd => Sys2Proof.Machine.execMovLD16ERsERd ers disp erd s
  | .movLD32ERsERd ers disp erd => Sys2Proof.Machine.execMovLD32ERsERd ers disp erd s
  | .movLERsIncERd ers erd => Sys2Proof.Machine.execMovLERsIncERd ers erd s
  | .movLAa16ERd abs erd => Sys2Proof.Machine.execMovLAa16ERd abs erd s
  | .movLAa32ERd abs erd => Sys2Proof.Machine.execMovLAa32ERd abs erd s
  | .movBRsAtERd rs erd => Sys2Proof.Machine.execMovBRsAtERd rs erd s
  | .movBRsD16ERd rs erd disp => Sys2Proof.Machine.execMovBRsD16ERd rs erd disp s
  | .movBRsD32ERd rs erd disp => Sys2Proof.Machine.execMovBRsD32ERd rs erd disp s
  | .movBRsDecERd rs erd => Sys2Proof.Machine.execMovBRsDecERd rs erd s
  | .movBRsAa8 rs abs => Sys2Proof.Machine.execMovBRsAa8 rs abs s
  | .movBRsAa16 rs abs => Sys2Proof.Machine.execMovBRsAa16 rs abs s
  | .movBRsAa32 rs abs => Sys2Proof.Machine.execMovBRsAa32 rs abs s
  | .movWRsAtERd rs erd => Sys2Proof.Machine.execMovWRsAtERd rs erd s
  | .movWRsD16ERd rs erd disp => Sys2Proof.Machine.execMovWRsD16ERd rs erd disp s
  | .movWRsD32ERd rs erd disp => Sys2Proof.Machine.execMovWRsD32ERd rs erd disp s
  | .movWRsDecERd rs erd => Sys2Proof.Machine.execMovWRsDecERd rs erd s
  | .movWRsAa16 rs abs => Sys2Proof.Machine.execMovWRsAa16 rs abs s
  | .movWRsAa32 rs abs => Sys2Proof.Machine.execMovWRsAa32 rs abs s
  | .movLERsAtERd ers erd => Sys2Proof.Machine.execMovLERsAtERd ers erd s
  | .movLERsD16ERd ers erd disp => Sys2Proof.Machine.execMovLERsD16ERd ers erd disp s
  | .movLERsD32ERd ers erd disp => Sys2Proof.Machine.execMovLERsD32ERd ers erd disp s
  | .movLERsDecERd ers erd => Sys2Proof.Machine.execMovLERsDecERd ers erd s
  | .movLERsAa16 ers abs => Sys2Proof.Machine.execMovLERsAa16 ers abs s
  | .movLERsAa32 ers abs => Sys2Proof.Machine.execMovLERsAa32 ers abs s
  | .popWRn rn => Sys2Proof.Machine.execPopWRn rn s
  | .popLERn ern => Sys2Proof.Machine.execPopLERn ern s
  | .pushWRn rn => Sys2Proof.Machine.execPushWRn rn s
  | .pushLERn ern => Sys2Proof.Machine.execPushLERn ern s
  | .ldmL2 rn => Sys2Proof.Machine.execLdmL2 rn s
  | .ldmL3 rn => Sys2Proof.Machine.execLdmL3 rn s
  | .ldmL4 rn => Sys2Proof.Machine.execLdmL4 rn s
  | .stmL2 rn => Sys2Proof.Machine.execStmL2 rn s
  | .stmL3 rn => Sys2Proof.Machine.execStmL3 rn s
  | .stmL4 rn => Sys2Proof.Machine.execStmL4 rn s
  | .movfpeAa16Rd abs rd => Sys2Proof.Machine.execMovfpeAa16Rd abs rd s
  | .movtpeRsAa16 rs abs => Sys2Proof.Machine.execMovtpeRsAa16 rs abs s
  | .addBImm8Rd imm rd => Sys2Proof.Machine.execAddBImm8Rd imm rd s
  | .addBRsRd rs rd => Sys2Proof.Machine.execAddBRsRd rs rd s
  | .addWImm16Rd imm rd => Sys2Proof.Machine.execAddWImm16Rd imm rd s
  | .addWRsRd rs rd => Sys2Proof.Machine.execAddWRsRd rs rd s
  | .addLImm32ERd imm erd => Sys2Proof.Machine.execAddLImm32ERd imm erd s
  | .addLERsERd ers erd => Sys2Proof.Machine.execAddLERsERd ers erd s
  | .addsBy1ERd erd => Sys2Proof.Machine.execAddsBy1ERd erd s
  | .addsBy2ERd erd => Sys2Proof.Machine.execAddsBy2ERd erd s
  | .addsBy4ERd erd => Sys2Proof.Machine.execAddsBy4ERd erd s
  | .addxImm8Rd imm rd => Sys2Proof.Machine.execAddxImm8Rd imm rd s
  | .addxRsRd rs rd => Sys2Proof.Machine.execAddxRsRd rs rd s
  | .subBRsRd rs rd => Sys2Proof.Machine.execSubBRsRd rs rd s
  | .subWImm16Rd imm rd => Sys2Proof.Machine.execSubWImm16Rd imm rd s
  | .subWRsRd rs rd => Sys2Proof.Machine.execSubWRsRd rs rd s
  | .subLImm32ERd imm erd => Sys2Proof.Machine.execSubLImm32ERd imm erd s
  | .subLERsERd ers erd => Sys2Proof.Machine.execSubLERsERd ers erd s
  | .subsBy1ERd erd => Sys2Proof.Machine.execSubsBy1ERd erd s
  | .subsBy2ERd erd => Sys2Proof.Machine.execSubsBy2ERd erd s
  | .subsBy4ERd erd => Sys2Proof.Machine.execSubsBy4ERd erd s
  | .subxImm8Rd imm rd => Sys2Proof.Machine.execSubxImm8Rd imm rd s
  | .subxRsRd rs rd => Sys2Proof.Machine.execSubxRsRd rs rd s
  | .cmpBImm8Rd imm rd => Sys2Proof.Machine.execCmpBImm8Rd imm rd s
  | .cmpBRsRd rs rd => Sys2Proof.Machine.execCmpBRsRd rs rd s
  | .cmpWImm16Rd imm rd => Sys2Proof.Machine.execCmpWImm16Rd imm rd s
  | .cmpWRsRd rs rd => Sys2Proof.Machine.execCmpWRsRd rs rd s
  | .cmpLImm32ERd imm erd => Sys2Proof.Machine.execCmpLImm32ERd imm erd s
  | .cmpLERsERd ers erd => Sys2Proof.Machine.execCmpLERsERd ers erd s
  | .incBRd rd => Sys2Proof.Machine.execIncBRd rd s
  | .incWBy1Rd rd => Sys2Proof.Machine.execIncWBy1Rd rd s
  | .incWBy2Rd rd => Sys2Proof.Machine.execIncWBy2Rd rd s
  | .incLBy1ERd erd => Sys2Proof.Machine.execIncLBy1ERd erd s
  | .incLBy2ERd erd => Sys2Proof.Machine.execIncLBy2ERd erd s
  | .decBRd rd => Sys2Proof.Machine.execDecBRd rd s
  | .decWBy1Rd rd => Sys2Proof.Machine.execDecWBy1Rd rd s
  | .decWBy2Rd rd => Sys2Proof.Machine.execDecWBy2Rd rd s
  | .decLBy1ERd erd => Sys2Proof.Machine.execDecLBy1ERd erd s
  | .decLBy2ERd erd => Sys2Proof.Machine.execDecLBy2ERd erd s
  | .negBRd rd => Sys2Proof.Machine.execNegBRd rd s
  | .negWRd rd => Sys2Proof.Machine.execNegWRd rd s
  | .negLERd erd => Sys2Proof.Machine.execNegLERd erd s
  | .daaRd rd => Sys2Proof.Machine.execDaaRd rd s
  | .dasRd rd => Sys2Proof.Machine.execDasRd rd s
  | .mulxuBRsRd rs rd => Sys2Proof.Machine.execMulxuBRsRd rs rd s
  | .mulxuWRsERd rs erd => Sys2Proof.Machine.execMulxuWRsERd rs erd s
  | .mulxsBRsRd rs rd => Sys2Proof.Machine.execMulxsBRsRd rs rd s
  | .mulxsWRsERd rs erd => Sys2Proof.Machine.execMulxsWRsERd rs erd s
  | .divxuBRsRd rs rd => Sys2Proof.Machine.execDivxuBRsRd rs rd s
  | .divxuWRsERd rs erd => Sys2Proof.Machine.execDivxuWRsERd rs erd s
  | .divxsBRsRd rs rd => Sys2Proof.Machine.execDivxsBRsRd rs rd s
  | .divxsWRsERd rs erd => Sys2Proof.Machine.execDivxsWRsERd rs erd s
  | .extuWRd rd => Sys2Proof.Machine.execExtuWRd rd s
  | .extuLERd erd => Sys2Proof.Machine.execExtuLERd erd s
  | .extsWRd rd => Sys2Proof.Machine.execExtsWRd rd s
  | .extsLERd erd => Sys2Proof.Machine.execExtsLERd erd s
  | .tasAtERd erd => Sys2Proof.Machine.execTasAtERd erd s
  | .macERnIncERmInc ern erm => Sys2Proof.Machine.execMacERnIncERmInc ern erm s
  | .clrmac => Sys2Proof.Machine.execClrmac s
  | .ldmacERsMACH ers => Sys2Proof.Machine.execLdmacERsMACH ers s
  | .ldmacERsMACL ers => Sys2Proof.Machine.execLdmacERsMACL ers s
  | .stmacMACHERd erd => Sys2Proof.Machine.execStmacMACHERd erd s
  | .stmacMACLERd erd => Sys2Proof.Machine.execStmacMACLERd erd s
  | .andBImm8Rd imm rd => Sys2Proof.Machine.execAndBImm8Rd imm rd s
  | .andBRsRd rs rd => Sys2Proof.Machine.execAndBRsRd rs rd s
  | .andWImm16Rd imm rd => Sys2Proof.Machine.execAndWImm16Rd imm rd s
  | .andWRsRd rs rd => Sys2Proof.Machine.execAndWRsRd rs rd s
  | .andLImm32ERd imm erd => Sys2Proof.Machine.execAndLImm32ERd imm erd s
  | .andLERsERd ers erd => Sys2Proof.Machine.execAndLERsERd ers erd s
  | .orBImm8Rd imm rd => Sys2Proof.Machine.execOrBImm8Rd imm rd s
  | .orBRsRd rs rd => Sys2Proof.Machine.execOrBRsRd rs rd s
  | .orWImm16Rd imm rd => Sys2Proof.Machine.execOrWImm16Rd imm rd s
  | .orWRsRd rs rd => Sys2Proof.Machine.execOrWRsRd rs rd s
  | .orLImm32ERd imm erd => Sys2Proof.Machine.execOrLImm32ERd imm erd s
  | .orLERsERd ers erd => Sys2Proof.Machine.execOrLERsERd ers erd s
  | .xorBImm8Rd imm rd => Sys2Proof.Machine.execXorBImm8Rd imm rd s
  | .xorBRsRd rs rd => Sys2Proof.Machine.execXorBRsRd rs rd s
  | .xorWImm16Rd imm rd => Sys2Proof.Machine.execXorWImm16Rd imm rd s
  | .xorWRsRd rs rd => Sys2Proof.Machine.execXorWRsRd rs rd s
  | .xorLImm32ERd imm erd => Sys2Proof.Machine.execXorLImm32ERd imm erd s
  | .xorLERsERd ers erd => Sys2Proof.Machine.execXorLERsERd ers erd s
  | .notBRd rd => Sys2Proof.Machine.execNotBRd rd s
  | .notWRd rd => Sys2Proof.Machine.execNotWRd rd s
  | .notLERd erd => Sys2Proof.Machine.execNotLERd erd s
  | .shalBRd rd => Sys2Proof.Machine.execShalBRd rd s
  | .shalBBy2Rd rd => Sys2Proof.Machine.execShalBBy2Rd rd s
  | .shalWRd rd => Sys2Proof.Machine.execShalWRd rd s
  | .shalWBy2Rd rd => Sys2Proof.Machine.execShalWBy2Rd rd s
  | .shalLERd erd => Sys2Proof.Machine.execShalLERd erd s
  | .shalLBy2ERd erd => Sys2Proof.Machine.execShalLBy2ERd erd s
  | .sharBRd rd => Sys2Proof.Machine.execSharBRd rd s
  | .sharBBy2Rd rd => Sys2Proof.Machine.execSharBBy2Rd rd s
  | .sharWRd rd => Sys2Proof.Machine.execSharWRd rd s
  | .sharWBy2Rd rd => Sys2Proof.Machine.execSharWBy2Rd rd s
  | .sharLERd erd => Sys2Proof.Machine.execSharLERd erd s
  | .sharLBy2ERd erd => Sys2Proof.Machine.execSharLBy2ERd erd s
  | .shllBRd rd => Sys2Proof.Machine.execShllBRd rd s
  | .shllBBy2Rd rd => Sys2Proof.Machine.execShllBBy2Rd rd s
  | .shllWRd rd => Sys2Proof.Machine.execShllWRd rd s
  | .shllWBy2Rd rd => Sys2Proof.Machine.execShllWBy2Rd rd s
  | .shllLERd erd => Sys2Proof.Machine.execShllLERd erd s
  | .shllLBy2ERd erd => Sys2Proof.Machine.execShllLBy2ERd erd s
  | .shlrBRd rd => Sys2Proof.Machine.execShlrBRd rd s
  | .shlrBBy2Rd rd => Sys2Proof.Machine.execShlrBBy2Rd rd s
  | .shlrWRd rd => Sys2Proof.Machine.execShlrWRd rd s
  | .shlrWBy2Rd rd => Sys2Proof.Machine.execShlrWBy2Rd rd s
  | .shlrLERd erd => Sys2Proof.Machine.execShlrLERd erd s
  | .shlrLBy2ERd erd => Sys2Proof.Machine.execShlrLBy2ERd erd s
  | .rotlBRd rd => Sys2Proof.Machine.execRotlBRd rd s
  | .rotlBBy2Rd rd => Sys2Proof.Machine.execRotlBBy2Rd rd s
  | .rotlWRd rd => Sys2Proof.Machine.execRotlWRd rd s
  | .rotlWBy2Rd rd => Sys2Proof.Machine.execRotlWBy2Rd rd s
  | .rotlLERd erd => Sys2Proof.Machine.execRotlLERd erd s
  | .rotlLBy2ERd erd => Sys2Proof.Machine.execRotlLBy2ERd erd s
  | .rotrBRd rd => Sys2Proof.Machine.execRotrBRd rd s
  | .rotrBBy2Rd rd => Sys2Proof.Machine.execRotrBBy2Rd rd s
  | .rotrWRd rd => Sys2Proof.Machine.execRotrWRd rd s
  | .rotrWBy2Rd rd => Sys2Proof.Machine.execRotrWBy2Rd rd s
  | .rotrLERd erd => Sys2Proof.Machine.execRotrLERd erd s
  | .rotrLBy2ERd erd => Sys2Proof.Machine.execRotrLBy2ERd erd s
  | .rotxlBRd rd => Sys2Proof.Machine.execRotxlBRd rd s
  | .rotxlBBy2Rd rd => Sys2Proof.Machine.execRotxlBBy2Rd rd s
  | .rotxlWRd rd => Sys2Proof.Machine.execRotxlWRd rd s
  | .rotxlWBy2Rd rd => Sys2Proof.Machine.execRotxlWBy2Rd rd s
  | .rotxlLERd erd => Sys2Proof.Machine.execRotxlLERd erd s
  | .rotxlLBy2ERd erd => Sys2Proof.Machine.execRotxlLBy2ERd erd s
  | .rotxrBRd rd => Sys2Proof.Machine.execRotxrBRd rd s
  | .rotxrBBy2Rd rd => Sys2Proof.Machine.execRotxrBBy2Rd rd s
  | .rotxrWRd rd => Sys2Proof.Machine.execRotxrWRd rd s
  | .rotxrWBy2Rd rd => Sys2Proof.Machine.execRotxrWBy2Rd rd s
  | .rotxrLERd erd => Sys2Proof.Machine.execRotxrLERd erd s
  | .rotxrLBy2ERd erd => Sys2Proof.Machine.execRotxrLBy2ERd erd s
  | .bandImm3Rd n rd => Sys2Proof.Machine.execBandImm3Rd n rd s
  | .bandImm3AtERd n erd => Sys2Proof.Machine.execBandImm3AtERd n erd s
  | .bandImm3Aa8 n abs => Sys2Proof.Machine.execBandImm3Aa8 n abs s
  | .bandImm3Aa16 n abs => Sys2Proof.Machine.execBandImm3Aa16 n abs s
  | .bandImm3Aa32 n abs => Sys2Proof.Machine.execBandImm3Aa32 n abs s
  | .bclrImm3Rd n rd => Sys2Proof.Machine.execBclrImm3Rd n rd s
  | .bclrImm3AtERd n erd => Sys2Proof.Machine.execBclrImm3AtERd n erd s
  | .bclrImm3Aa8 n abs => Sys2Proof.Machine.execBclrImm3Aa8 n abs s
  | .bclrImm3Aa16 n abs => Sys2Proof.Machine.execBclrImm3Aa16 n abs s
  | .bclrImm3Aa32 n abs => Sys2Proof.Machine.execBclrImm3Aa32 n abs s
  | .bclrRnRd rn rd => Sys2Proof.Machine.execBclrRnRd rn rd s
  | .bclrRnAtERd rn erd => Sys2Proof.Machine.execBclrRnAtERd rn erd s
  | .bclrRnAa8 rn abs => Sys2Proof.Machine.execBclrRnAa8 rn abs s
  | .bclrRnAa16 rn abs => Sys2Proof.Machine.execBclrRnAa16 rn abs s
  | .bclrRnAa32 rn abs => Sys2Proof.Machine.execBclrRnAa32 rn abs s
  | .biandImm3Rd n rd => Sys2Proof.Machine.execBiandImm3Rd n rd s
  | .biandImm3AtERd n erd => Sys2Proof.Machine.execBiandImm3AtERd n erd s
  | .biandImm3Aa8 n abs => Sys2Proof.Machine.execBiandImm3Aa8 n abs s
  | .biandImm3Aa16 n abs => Sys2Proof.Machine.execBiandImm3Aa16 n abs s
  | .biandImm3Aa32 n abs => Sys2Proof.Machine.execBiandImm3Aa32 n abs s
  | .bildImm3Rd n rd => Sys2Proof.Machine.execBildImm3Rd n rd s
  | .bildImm3AtERd n erd => Sys2Proof.Machine.execBildImm3AtERd n erd s
  | .bildImm3Aa8 n abs => Sys2Proof.Machine.execBildImm3Aa8 n abs s
  | .bildImm3Aa16 n abs => Sys2Proof.Machine.execBildImm3Aa16 n abs s
  | .bildImm3Aa32 n abs => Sys2Proof.Machine.execBildImm3Aa32 n abs s
  | .biorImm3Rd n rd => Sys2Proof.Machine.execBiorImm3Rd n rd s
  | .biorImm3AtERd n erd => Sys2Proof.Machine.execBiorImm3AtERd n erd s
  | .biorImm3Aa8 n abs => Sys2Proof.Machine.execBiorImm3Aa8 n abs s
  | .biorImm3Aa16 n abs => Sys2Proof.Machine.execBiorImm3Aa16 n abs s
  | .biorImm3Aa32 n abs => Sys2Proof.Machine.execBiorImm3Aa32 n abs s
  | .bistImm3Rd n rd => Sys2Proof.Machine.execBistImm3Rd n rd s
  | .bistImm3AtERd n erd => Sys2Proof.Machine.execBistImm3AtERd n erd s
  | .bistImm3Aa8 n abs => Sys2Proof.Machine.execBistImm3Aa8 n abs s
  | .bistImm3Aa16 n abs => Sys2Proof.Machine.execBistImm3Aa16 n abs s
  | .bistImm3Aa32 n abs => Sys2Proof.Machine.execBistImm3Aa32 n abs s
  | .bixorImm3Rd n rd => Sys2Proof.Machine.execBixorImm3Rd n rd s
  | .bixorImm3AtERd n erd => Sys2Proof.Machine.execBixorImm3AtERd n erd s
  | .bixorImm3Aa8 n abs => Sys2Proof.Machine.execBixorImm3Aa8 n abs s
  | .bixorImm3Aa16 n abs => Sys2Proof.Machine.execBixorImm3Aa16 n abs s
  | .bixorImm3Aa32 n abs => Sys2Proof.Machine.execBixorImm3Aa32 n abs s
  | .bldImm3Rd n rd => Sys2Proof.Machine.execBldImm3Rd n rd s
  | .bldImm3AtERd n erd => Sys2Proof.Machine.execBldImm3AtERd n erd s
  | .bldImm3Aa8 n abs => Sys2Proof.Machine.execBldImm3Aa8 n abs s
  | .bldImm3Aa16 n abs => Sys2Proof.Machine.execBldImm3Aa16 n abs s
  | .bldImm3Aa32 n abs => Sys2Proof.Machine.execBldImm3Aa32 n abs s
  | .bnotImm3Rd n rd => Sys2Proof.Machine.execBnotImm3Rd n rd s
  | .bnotImm3AtERd n erd => Sys2Proof.Machine.execBnotImm3AtERd n erd s
  | .bnotImm3Aa8 n abs => Sys2Proof.Machine.execBnotImm3Aa8 n abs s
  | .bnotImm3Aa16 n abs => Sys2Proof.Machine.execBnotImm3Aa16 n abs s
  | .bnotImm3Aa32 n abs => Sys2Proof.Machine.execBnotImm3Aa32 n abs s
  | .bnotRnRd rn rd => Sys2Proof.Machine.execBnotRnRd rn rd s
  | .bnotRnAtERd rn erd => Sys2Proof.Machine.execBnotRnAtERd rn erd s
  | .bnotRnAa8 rn abs => Sys2Proof.Machine.execBnotRnAa8 rn abs s
  | .bnotRnAa16 rn abs => Sys2Proof.Machine.execBnotRnAa16 rn abs s
  | .bnotRnAa32 rn abs => Sys2Proof.Machine.execBnotRnAa32 rn abs s
  | .borImm3Rd n rd => Sys2Proof.Machine.execBorImm3Rd n rd s
  | .borImm3AtERd n erd => Sys2Proof.Machine.execBorImm3AtERd n erd s
  | .borImm3Aa8 n abs => Sys2Proof.Machine.execBorImm3Aa8 n abs s
  | .borImm3Aa16 n abs => Sys2Proof.Machine.execBorImm3Aa16 n abs s
  | .borImm3Aa32 n abs => Sys2Proof.Machine.execBorImm3Aa32 n abs s
  | .bsetImm3Rd n rd => Sys2Proof.Machine.execBsetImm3Rd n rd s
  | .bsetImm3AtERd n erd => Sys2Proof.Machine.execBsetImm3AtERd n erd s
  | .bsetImm3Aa8 n abs => Sys2Proof.Machine.execBsetImm3Aa8 n abs s
  | .bsetImm3Aa16 n abs => Sys2Proof.Machine.execBsetImm3Aa16 n abs s
  | .bsetImm3Aa32 n abs => Sys2Proof.Machine.execBsetImm3Aa32 n abs s
  | .bsetRnRd rn rd => Sys2Proof.Machine.execBsetRnRd rn rd s
  | .bsetRnAtERd rn erd => Sys2Proof.Machine.execBsetRnAtERd rn erd s
  | .bsetRnAa8 rn abs => Sys2Proof.Machine.execBsetRnAa8 rn abs s
  | .bsetRnAa16 rn abs => Sys2Proof.Machine.execBsetRnAa16 rn abs s
  | .bsetRnAa32 rn abs => Sys2Proof.Machine.execBsetRnAa32 rn abs s
  | .bstImm3Rd n rd => Sys2Proof.Machine.execBstImm3Rd n rd s
  | .bstImm3AtERd n erd => Sys2Proof.Machine.execBstImm3AtERd n erd s
  | .bstImm3Aa8 n abs => Sys2Proof.Machine.execBstImm3Aa8 n abs s
  | .bstImm3Aa16 n abs => Sys2Proof.Machine.execBstImm3Aa16 n abs s
  | .bstImm3Aa32 n abs => Sys2Proof.Machine.execBstImm3Aa32 n abs s
  | .btstImm3Rd n rd => Sys2Proof.Machine.execBtstImm3Rd n rd s
  | .btstImm3AtERd n erd => Sys2Proof.Machine.execBtstImm3AtERd n erd s
  | .btstImm3Aa8 n abs => Sys2Proof.Machine.execBtstImm3Aa8 n abs s
  | .btstImm3Aa16 n abs => Sys2Proof.Machine.execBtstImm3Aa16 n abs s
  | .btstImm3Aa32 n abs => Sys2Proof.Machine.execBtstImm3Aa32 n abs s
  | .btstRnRd rn rd => Sys2Proof.Machine.execBtstRnRd rn rd s
  | .btstRnAtERd rn erd => Sys2Proof.Machine.execBtstRnAtERd rn erd s
  | .btstRnAa8 rn abs => Sys2Proof.Machine.execBtstRnAa8 rn abs s
  | .btstRnAa16 rn abs => Sys2Proof.Machine.execBtstRnAa16 rn abs s
  | .btstRnAa32 rn abs => Sys2Proof.Machine.execBtstRnAa32 rn abs s
  | .bxorImm3Rd n rd => Sys2Proof.Machine.execBxorImm3Rd n rd s
  | .bxorImm3AtERd n erd => Sys2Proof.Machine.execBxorImm3AtERd n erd s
  | .bxorImm3Aa8 n abs => Sys2Proof.Machine.execBxorImm3Aa8 n abs s
  | .bxorImm3Aa16 n abs => Sys2Proof.Machine.execBxorImm3Aa16 n abs s
  | .bxorImm3Aa32 n abs => Sys2Proof.Machine.execBxorImm3Aa32 n abs s
  | .braD8 disp => Sys2Proof.Machine.execBraD8 disp s
  | .braD16 disp => Sys2Proof.Machine.execBraD16 disp s
  | .brnD8 disp => Sys2Proof.Machine.execBrnD8 disp s
  | .brnD16 disp => Sys2Proof.Machine.execBrnD16 disp s
  | .bhiD8 disp => Sys2Proof.Machine.execBhiD8 disp s
  | .bhiD16 disp => Sys2Proof.Machine.execBhiD16 disp s
  | .blsD8 disp => Sys2Proof.Machine.execBlsD8 disp s
  | .blsD16 disp => Sys2Proof.Machine.execBlsD16 disp s
  | .bccD8 disp => Sys2Proof.Machine.execBccD8 disp s
  | .bccD16 disp => Sys2Proof.Machine.execBccD16 disp s
  | .bcsD8 disp => Sys2Proof.Machine.execBcsD8 disp s
  | .bcsD16 disp => Sys2Proof.Machine.execBcsD16 disp s
  | .bneD8 disp => Sys2Proof.Machine.execBneD8 disp s
  | .bneD16 disp => Sys2Proof.Machine.execBneD16 disp s
  | .beqD8 disp => Sys2Proof.Machine.execBeqD8 disp s
  | .beqD16 disp => Sys2Proof.Machine.execBeqD16 disp s
  | .bvcD8 disp => Sys2Proof.Machine.execBvcD8 disp s
  | .bvcD16 disp => Sys2Proof.Machine.execBvcD16 disp s
  | .bvsD8 disp => Sys2Proof.Machine.execBvsD8 disp s
  | .bvsD16 disp => Sys2Proof.Machine.execBvsD16 disp s
  | .bplD8 disp => Sys2Proof.Machine.execBplD8 disp s
  | .bplD16 disp => Sys2Proof.Machine.execBplD16 disp s
  | .bmiD8 disp => Sys2Proof.Machine.execBmiD8 disp s
  | .bmiD16 disp => Sys2Proof.Machine.execBmiD16 disp s
  | .bgeD8 disp => Sys2Proof.Machine.execBgeD8 disp s
  | .bgeD16 disp => Sys2Proof.Machine.execBgeD16 disp s
  | .bltD8 disp => Sys2Proof.Machine.execBltD8 disp s
  | .bltD16 disp => Sys2Proof.Machine.execBltD16 disp s
  | .bgtD8 disp => Sys2Proof.Machine.execBgtD8 disp s
  | .bgtD16 disp => Sys2Proof.Machine.execBgtD16 disp s
  | .bleD8 disp => Sys2Proof.Machine.execBleD8 disp s
  | .bleD16 disp => Sys2Proof.Machine.execBleD16 disp s
  | .jmpAtERn ern => Sys2Proof.Machine.execJmpAtERn ern s
  | .jmpAa24 abs => Sys2Proof.Machine.execJmpAa24 abs s
  | .jmpMemAa8 abs => Sys2Proof.Machine.execJmpMemAa8 abs s
  | .bsrD8 disp => Sys2Proof.Machine.execBsrD8 disp s
  | .bsrD16 disp => Sys2Proof.Machine.execBsrD16 disp s
  | .jsrAtERn ern => Sys2Proof.Machine.execJsrAtERn ern s
  | .jsrAa24 abs => Sys2Proof.Machine.execJsrAa24 abs s
  | .jsrMemAa8 abs => Sys2Proof.Machine.execJsrMemAa8 abs s
  | .rts => Sys2Proof.Machine.execRts s
  | .trapa imm => Sys2Proof.Machine.execTrapa imm s
  | .rte => Sys2Proof.Machine.execRte s
  | .sleep => Sys2Proof.Machine.execSleep s
  | .nop => Sys2Proof.Machine.execNop s
  | .ldcBImm8CCR imm => Sys2Proof.Machine.execLdcBImm8CCR imm s
  | .ldcBImm8EXR imm => Sys2Proof.Machine.execLdcBImm8EXR imm s
  | .ldcBRsCCR rs => Sys2Proof.Machine.execLdcBRsCCR rs s
  | .ldcBRsEXR rs => Sys2Proof.Machine.execLdcBRsEXR rs s
  | .ldcWAtERsCCR ers => Sys2Proof.Machine.execLdcWAtERsCCR ers s
  | .ldcWD16ERsCCR ers disp => Sys2Proof.Machine.execLdcWD16ERsCCR ers disp s
  | .ldcWD32ERsCCR ers disp => Sys2Proof.Machine.execLdcWD32ERsCCR ers disp s
  | .ldcWERsIncCCR ers => Sys2Proof.Machine.execLdcWERsIncCCR ers s
  | .ldcWAa16CCR abs => Sys2Proof.Machine.execLdcWAa16CCR abs s
  | .ldcWAa32CCR abs => Sys2Proof.Machine.execLdcWAa32CCR abs s
  | .ldcWAtERsEXR ers => Sys2Proof.Machine.execLdcWAtERsEXR ers s
  | .ldcWD16ERsEXR ers disp => Sys2Proof.Machine.execLdcWD16ERsEXR ers disp s
  | .ldcWD32ERsEXR ers disp => Sys2Proof.Machine.execLdcWD32ERsEXR ers disp s
  | .ldcWERsIncEXR ers => Sys2Proof.Machine.execLdcWERsIncEXR ers s
  | .ldcWAa16EXR abs => Sys2Proof.Machine.execLdcWAa16EXR abs s
  | .ldcWAa32EXR abs => Sys2Proof.Machine.execLdcWAa32EXR abs s
  | .stcBCCRRd rd => Sys2Proof.Machine.execStcBCCRRd rd s
  | .stcBEXRRd rd => Sys2Proof.Machine.execStcBEXRRd rd s
  | .stcWCCRAtERd erd => Sys2Proof.Machine.execStcWCCRAtERd erd s
  | .stcWCCRD16ERd erd disp => Sys2Proof.Machine.execStcWCCRD16ERd erd disp s
  | .stcWCCRD32ERd erd disp => Sys2Proof.Machine.execStcWCCRD32ERd erd disp s
  | .stcWCCRDecERd erd => Sys2Proof.Machine.execStcWCCRDecERd erd s
  | .stcWCCRAa16 abs => Sys2Proof.Machine.execStcWCCRAa16 abs s
  | .stcWCCRAa32 abs => Sys2Proof.Machine.execStcWCCRAa32 abs s
  | .stcWEXRAtERd erd => Sys2Proof.Machine.execStcWEXRAtERd erd s
  | .stcWEXRD16ERd erd disp => Sys2Proof.Machine.execStcWEXRD16ERd erd disp s
  | .stcWEXRD32ERd erd disp => Sys2Proof.Machine.execStcWEXRD32ERd erd disp s
  | .stcWEXRDecERd erd => Sys2Proof.Machine.execStcWEXRDecERd erd s
  | .stcWEXRAa16 abs => Sys2Proof.Machine.execStcWEXRAa16 abs s
  | .stcWEXRAa32 abs => Sys2Proof.Machine.execStcWEXRAa32 abs s
  | .andcImm8CCR imm => Sys2Proof.Machine.execAndcImm8CCR imm s
  | .andcImm8EXR imm => Sys2Proof.Machine.execAndcImm8EXR imm s
  | .orcImm8CCR imm => Sys2Proof.Machine.execOrcImm8CCR imm s
  | .orcImm8EXR imm => Sys2Proof.Machine.execOrcImm8EXR imm s
  | .xorcImm8CCR imm => Sys2Proof.Machine.execXorcImm8CCR imm s
  | .xorcImm8EXR imm => Sys2Proof.Machine.execXorcImm8EXR imm s
  | .eepmovB => Sys2Proof.Machine.execEepmovB s
  | .eepmovW => Sys2Proof.Machine.execEepmovW s

end Sys2Proof.Machine
end

