-- ==== Sys2Proof/Machine/Boundary.lean ====
section
/-! DEFINITION. What happens between two instructions (R460, R461, R484): the fetch of an instruction (R67), the check of
exceptions, the processing states; and the placing of an instruction where it is fetched. -/

namespace Sys2Proof.Machine

/-! ### Fetching an instruction -/

/-- The address `offset` bytes after PC (R67): 24 bits, the upper 8 bits of the address being 0. -/
def codeAddr (s : State) (offset : Nat) : Long := (s.pc + BitVec.ofNat 24 offset).setWidth 32

/-- The address of word `k` of the instruction at PC (R67). -/
def fetchAddr (s : State) (k : Nat) : Long := codeAddr s (2 * k)

/-- The two bytes of word `k` of the instruction at PC. -/
def fetchWord (s : State) (k : Nat) : List Byte :=
  let w := wordAt s (fetchAddr s k)
  [w.extractLsb' 8 8, w.extractLsb' 0 8]

/-- The bytes at PC, as many as the longest instruction has (R67, R100). -/
def instrBytes (s : State) : List Byte :=
  fetchWord s 0 ++ fetchWord s 1 ++ fetchWord s 2 ++ fetchWord s 3 ++ fetchWord s 4

/-- The keys of the words at `next` and `next + 2` of the instruction `i` at PC (R85). -/
def prefetchKeys (i : Instr) (s : State) : List Nat :=
  wordKeys s.cfg (codeAddr s i.size) ++ wordKeys s.cfg (codeAddr s (i.size + 2))

/-- A write cycle stores into one of these keys. -/
def reaches (keys : List Nat) (c : WriteCycle) : Bool := c.any fun cell => keys.contains cell.1.toNat

/-- One of the changes of memory noted in `t`, the environment's among them (R85), stores into one of these keys. -/
def storesInto (keys : List Nat) (t : State) : Bool := t.writes.any fun change => reaches keys (changedCells change)

/-! ### One boundary -/

/-- The environment is about to store into the word at PC or PC + 2 (R85). -/
def touchesCode (s : State) : Bool :=
  (s.env.acts.take 1).any (reaches (wordKeys s.cfg (codeAddr s 0) ++ wordKeys s.cfg (codeAddr s 2)))

/-- A boundary: the environment acts (R81), and the changes of memory are noted from here on. A word at PC or PC + 2 into which it
stores may have been prefetched (R85; log 13). -/
def atBoundary (s : State) : State := { environmentActs 1 s with writes := [], stale := s.stale || touchesCode s }

/-- The boundary at which an instruction is executed (R484): the offer was examined and not accepted, and the windows of
R474 and R481 close. -/
def beginInstr (s : State) : State := { passOfferInside s with inhibit := false, noTrace := false }

/-- The end of the instruction started in `s`: an offer that could not change inside it gives way to the next one. -/
def endInstr (s t : State) : State :=
  match s.cfg.granularity with
  | .instruction => { t with env := { t.env with offers := (passOffer s).env.offers } }
  | .busCycle => t

/-- The power-down states in which the CPU waits for an exception-handling request (R465, R806): trace (log 19), then an
accepted interrupt; otherwise it goes on waiting. -/
def waitForException (s : State) : State :=
  if traceDue s then traceSequence s
  else
    match acceptedRequest s with
    | some req => interruptSequence req s
    | none => passOffer s

/-- What the CPU goes on to do at a boundary: the state in which it ends, and the keys into which nothing may be stored
meanwhile, those of an instruction's words at `next` and `next + 2` (R85). -/
structure Deed where
  ends : State
  window : List Nat
deriving DecidableEq, Repr

/-- A deed that is no instruction: nothing prefetched is executed after it. -/
def withoutWindow (t : State) : Host.Outcome Deed Fault Refusal := .next { ends := t, window := [] }

/-- The deed comes to `f` of its end. Nothing is claimed where its window has been stored into by then (R85, D14; log 13). -/
def conclude (f : State → State) : Host.Outcome Deed Fault Refusal → Result
  | .next d => if storesInto d.window (f d.ends) then .refused .storeIntoPrefetch else .next (f d.ends)
  | .fault r => .fault r
  | .refused r => .refused r

noncomputable section

/-- Execute the instruction at PC (R484), unless what was prefetched of it may be out of date (R85, D14; log 13). -/
def runInstruction (s : State) : Host.Outcome Deed Fault Refusal :=
  if s.stale then .refused .storeIntoPrefetch
  else
    match decode (instrBytes s) with
    | none => .refused .undefinedEncoding
    | some i =>
      match exec i (beginInstr s) with
      | .next t => .next { ends := endInstr s t, window := prefetchKeys i s }
      | .fault r => .fault r
      | .refused r => .refused r

/-- What the CPU goes on to do while neither RES nor STBY is low (R460, R461, R484): what the processing state asks for, trace
before interrupt before the next instruction (R467). -/
def undertake (s : State) : Host.Outcome Deed Fault Refusal :=
  match s.procState with
  | .reset => withoutWindow (resetSequence s.env.resetKind s)
  | .exceptionHandling => withoutWindow { s with procState := .programExecution }
  | .hardwareStandby => withoutWindow s
  | .busReleased => withoutWindow (if s.env.busRequest then s else { s with procState := .programExecution })
  | .sleep => withoutWindow (waitForException s)
  | .softwareStandby => withoutWindow (waitForException s)
  | .programExecution =>
    if s.env.busRequest then withoutWindow { s with procState := .busReleased }
    else if traceDue s then withoutWindow (traceSequence s)
    else
      match acceptedRequest s with
      | some req => withoutWindow (interruptSequence req s)
      | none => runInstruction s

/-- The CPU does it whole. -/
def proceed (s : State) : Result := conclude (fun t => t) (undertake s)

/-- RES or STBY has gone low, and `enter` is where that leads (R460, R520): from the boundary, or, at granularity `bus_cycle`,
from inside what the CPU went on to do, which is abandoned with the writes it has performed (D13; log 22). -/
def cutShort (enter : State → State) (s : State) : Result :=
  match s.cfg.granularity, s.env.arrival with
  | .busCycle, .afterWrites n =>
    if s.procState = .reset then .next (enter s) else conclude (fun t => enter (abandoned n s t)) (undertake s)
  | .busCycle, .boundary => .next (enter s)
  | .instruction, .afterWrites _ => .next (enter s)
  | .instruction, .boundary => .next (enter s)

/-- The decision at a boundary (R461, R484). Reset comes first, in every processing state, hardware standby included (R467,
R520); then STBY, in every state (R460; log 20). -/
def boundaryDecision (s : State) : Result :=
  if s.env.resetAsserted then cutShort enterReset s
  else if s.env.standbyAsserted then
    if s.procState = .hardwareStandby then .next s else cutShort enterHardwareStandby s
  else proceed s

/-- One step: the environment acts, then the boundary's decision (R81, R461, R484). -/
def boundary (s : State) : Result := boundaryDecision (atBoundary s)

end

/-! ### Placing an instruction -/

/-- The bytes placed word by word where they are fetched, from word `k` on. -/
def placeWords : List Byte → Nat → State → State
  | a :: b :: rest, k, s =>
    placeWords rest (k + 1) { s with mem := performCycle s.mem (wordCycle s.cfg (fetchAddr s k) (a ++ b)) }
  | _, _, s => s

/-- A state in which the next step fetches and executes at PC: program execution, no input asserted, no exception due, the
environment doing nothing at the boundary, and nothing of it prefetched. -/
def readyToFetch (s : State) : State :=
  { s with
    env := { s.env with resetAsserted := false, standbyAsserted := false, busRequest := false, acts := [] :: s.env.acts }
    procState := .programExecution
    inhibit := true
    noTrace := true
    stale := false }

end Sys2Proof.Machine
end

