-- ==== Sys2Proof/Machine/Step.lean ====
section
/-! DEFINITION. `step`, the machine's one step, and `State.withFetchWord`, an instruction placed where it is fetched. The
section is noncomputable for the reason that Decode.lean gives. -/

namespace Sys2Proof.Machine

noncomputable section

/-- One step: one boundary decision of R484. -/
def step (s : State) : Host.Outcome State Fault Refusal := boundary s

/-- `s` with the instruction whose bits are `w`, numbered as the opcode table numbers them, stored at PC and ready to be
executed by the next step. -/
def State.withFetchWord (s : State) (nbits w : Nat) : State := placeWords (tableBytes nbits w) 0 (readyToFetch s)

end

end Sys2Proof.Machine
end

