-- ==== Sys2Proof/Safety.lean ====
section
/-! DEFINITION. What claims call a good state, a completed instruction and a run: the vocabulary of the statements. Values and
flags are said here in the terms of arithmetic, not in those of the meanings. -/

namespace Sys2Proof.Machine

/-! ### States -/

/-- The invariant of the machine: memory is in canonical form (R60), PC is even (R29, D12), and in normal mode PC bits 23 to
16 are 0 (R28, D11). -/
structure State.Inv (s : State) : Prop where
  memWf : s.mem.wf = true
  pcEven : s.pc.getLsbD 0 = false
  pcNormal : s.cfg.mode = .normal → s.pc.toNat < 2 ^ 16

/-- The inputs that a step reads and must leave as they are: all of `env` but the offers and the environment's acts (R7). -/
def Env.inputs (e : Env) : Env := { e with offers := [], acts := [] }

/-- The environment does not act inside the instruction that `s` executes (R81): plain memory, or granularity `instruction`. -/
def State.Undisturbed (s : State) : Prop := s.cfg.granularity = .instruction ∨ s.env.acts = []

/-- No exception, no input and no wait keeps the machine from executing the instruction at PC (R484). `s` is the state at the
boundary, after the environment has acted there. -/
structure State.Executes (s : State) : Prop where
  running : s.procState = .programExecution
  noStandby : s.env.standbyAsserted = false
  noReset : s.env.resetAsserted = false
  noBusRequest : s.env.busRequest = false
  noTraceDue : traceDue s = false
  noInterrupt : acceptedRequest s = none

/-! ### What an instruction leaves unchanged

Where an instruction has bus cycles the environment may act before each of them (R81). What is left unchanged is then said from the
state `beforeCycle s` or `beforeCycles n s`, in which the environment has acted and the instruction has done nothing. In a state
that is `Undisturbed` this is `s` itself. -/

/-- Everything but the general registers, PC, CCR and memory is the same. `writes` being the same says that memory has not been
changed; where an instruction stores, `s` is the state after its stores. -/
structure Untouched (s t : State) : Prop where
  cfg : t.cfg = s.cfg
  env : t.env = s.env
  exr : t.exr = s.exr
  mach : t.mach = s.mach
  macl : t.macl = s.macl
  nMult : t.nMult = s.nMult
  zMult : t.zMult = s.zMult
  vMult : t.vMult = s.vMult
  procState : t.procState = s.procState
  inhibit : t.inhibit = s.inhibit
  noTrace : t.noTrace = s.noTrace
  stale : t.stale = s.stale
  writes : t.writes = s.writes
  draws : t.draws = s.draws

/-- All general registers read the same. -/
def SameRegisters (s t : State) : Prop := ∀ n, getER t n = getER s n

/-- All general registers but ERn read the same. -/
def OtherRegisters (n : RegNum) (s t : State) : Prop := ∀ m, m ≠ n → getER t m = getER s m

/-- Every register, or part of a register, that does not overlap `rd` reads the same (R21). -/
def Reg.Others : {w : Nat} → Reg w → State → State → Prop
  | _, .b r, s, t => (∀ q, q ≠ r → getReg8 t q = getReg8 s q) ∧ ∀ n, getReg16 t (.e n) = getReg16 s (.e n)
  | _, .w r, s, t => ∀ q, q ≠ r → getReg16 t q = getReg16 s q
  | _, .l n, s, t => OtherRegisters n s t

/-- Every byte of memory reads the same. -/
def SameMemory (s t : State) : Prop := ∀ k, readByte t.mem k = readByte s.mem k

/-- Every byte of memory whose key is not in `keys` reads the same. -/
def SameMemoryOutside (keys : List Nat) (s t : State) : Prop := ∀ k, k ∉ keys → readByte t.mem k = readByte s.mem k

/-! ### Completed instructions -/

/-- The outcome is a next state with `P`. -/
def Completes (r : Result) (P : State → Prop) : Prop := ∃ t, r = .next t ∧ P t

/-- PC has moved past an instruction of `len` bytes (R27, R28). -/
def Advanced (len : BitVec 24) (s t : State) : Prop := t.pc = pcValue s.cfg.mode (s.pc + len)

/-- From `s` to `t` register `rd` has taken value `v` and CCR has become `c`, PC has moved past `len` bytes, and nothing else
has changed. -/
structure SetsRegister {w : Nat} (len : BitVec 24) (rd : Reg w) (v : BitVec w) (c : Ccr) (s t : State) : Prop where
  value : rd.get t = v
  others : rd.Others s t
  ccr : t.ccr = c
  pc : Advanced len s t
  memory : SameMemory s t
  rest : Untouched s t

/-- From `s` to `t` CCR has become `c`, PC has moved past `len` bytes, and nothing else has changed. -/
structure SetsCcr (len : BitVec 24) (c : Ccr) (s t : State) : Prop where
  ccr : t.ccr = c
  pc : Advanced len s t
  registers : SameRegisters s t
  memory : SameMemory s t
  rest : Untouched s t

/-- From `s` to `t` a value `v` of the size of `rs` has been stored at address `a`, CCR has become `c`, PC has moved past `len`
bytes, and nothing else has changed. -/
structure StoresAt {w : Nat} (len : BitVec 24) (rs : Reg w) (a : Long) (v : BitVec w) (c : Ccr) (s t : State) : Prop where
  stored : t.mem = (rs.store a v s).mem
  memory : SameMemoryOutside (rs.keys s.cfg a) (beforeCycles rs.cycles s) t
  ccr : t.ccr = c
  pc : Advanced len s t
  registers : SameRegisters s t
  rest : Untouched (rs.store a v s) t

/-- N, Z and V as a transfer or a logic instruction leaves them (R140, R300), the other bits of CCR kept. -/
def resultFlags {w : Nat} (v : BitVec w) (c : Ccr) : Ccr :=
  { c with n := decide (v.toInt < 0), z := decide (v.toNat = 0), v := false }

/-- The instruction transfers `v` to `rd`. -/
def Transfers {w : Nat} (len : BitVec 24) (rd : Reg w) (v : BitVec w) (s : State) (r : Result) : Prop :=
  Completes r (SetsRegister len rd v (resultFlags v s.ccr) s)

/-- The instruction loads `rd` from memory: the address register is updated first, and the loaded data is written last
(R193). -/
def Loads {w : Nat} (len : BitVec 24) (ea : Ea) (rd : Reg w) (s : State) (r : Result) : Prop :=
  Transfers len rd (rd.load s (ea.addr rd.bytes s)) (beforeCycles rd.cycles (ea.update rd.bytes s)) r

/-- The instruction stores `rs`, read after the address register's update (R193). -/
def Stores {w : Nat} (len : BitVec 24) (rs : Reg w) (ea : Ea) (s : State) (r : Result) : Prop :=
  let s1 := ea.update rs.bytes s
  Completes r (StoresAt len rs (ea.addr rs.bytes s) (rs.get s1) (resultFlags (rs.get s1) s.ccr) s1)

/-- The instruction replaces `rd` by `v` and CCR by `c`. -/
def Alters {w : Nat} (len : BitVec 24) (rd : Reg w) (v : BitVec w) (c : Ccr) (s : State) (r : Result) : Prop :=
  Completes r (SetsRegister len rd v c s)

/-! ### Arithmetic -/

/-- The flags of the sum `r` of `d`, `s` and a carry (R200): H and C are the carries out of bit `w - 5` and of the top bit, V
says that the signed sum does not fit. -/
def sumFlags {w : Nat} (d s : BitVec w) (carry : Bool) (r : BitVec w) (c : Ccr) : Ccr :=
  { c with
    h := decide (2 ^ (w - 4) ≤ d.toNat % 2 ^ (w - 4) + s.toNat % 2 ^ (w - 4) + carry.toNat)
    n := decide (r.toInt < 0)
    z := decide (r.toNat = 0)
    v := decide (d.toInt + s.toInt + carry.toNat < -2 ^ (w - 1) ∨ 2 ^ (w - 1) ≤ d.toInt + s.toInt + carry.toNat)
    c := decide (2 ^ w ≤ d.toNat + s.toNat + carry.toNat) }

/-- The flags of the difference `r` of `d`, `s` and a borrow (R201): H and C are the borrows at bit `w - 5` and at the top bit,
V says that the signed difference does not fit. -/
def differenceFlags {w : Nat} (d s : BitVec w) (borrow : Bool) (r : BitVec w) (c : Ccr) : Ccr :=
  { c with
    h := decide (d.toNat % 2 ^ (w - 4) < s.toNat % 2 ^ (w - 4) + borrow.toNat)
    n := decide (r.toInt < 0)
    z := decide (r.toNat = 0)
    v := decide (d.toInt - s.toInt - borrow.toNat < -2 ^ (w - 1) ∨ 2 ^ (w - 1) ≤ d.toInt - s.toInt - borrow.toNat)
    c := decide (d.toNat < s.toNat + borrow.toNat) }

/-- The instruction adds `x` to `rd`. -/
def Adds {w : Nat} (len : BitVec 24) (rd : Reg w) (x : BitVec w) (s : State) (r : Result) : Prop :=
  Alters len rd (rd.get s + x) (sumFlags (rd.get s) x false (rd.get s + x) s.ccr) s r

/-- The instruction subtracts `x` from `rd`. -/
def Subtracts {w : Nat} (len : BitVec 24) (rd : Reg w) (x : BitVec w) (s : State) (r : Result) : Prop :=
  Alters len rd (rd.get s - x) (differenceFlags (rd.get s) x false (rd.get s - x) s.ccr) s r

/-- The instruction compares `rd` with `x`: the flags of the subtraction, and no result. -/
def Compares {w : Nat} (len : BitVec 24) (rd : Reg w) (x : BitVec w) (s : State) (r : Result) : Prop :=
  Completes r (SetsCcr len (differenceFlags (rd.get s) x false (rd.get s - x) s.ccr) s)

/-- The instruction adds the signed number `k` to `rd` and sets N, Z and V (R230 to R242). -/
def Counts {w : Nat} (len : BitVec 24) (rd : Reg w) (k : Int) (s : State) (r : Result) : Prop :=
  let v := BitVec.ofInt w ((rd.get s).toInt + k)
  Alters len rd v
    { s.ccr with
      n := decide (v.toInt < 0)
      z := decide (v.toNat = 0)
      v := decide ((rd.get s).toInt + k < -2 ^ (w - 1) ∨ 2 ^ (w - 1) ≤ (rd.get s).toInt + k) }
    s r

/-- The instruction replaces `rd` by `v` and sets N and Z from it, V to 0 (R300). -/
def Computes {w : Nat} (len : BitVec 24) (rd : Reg w) (v : BitVec w) (s : State) (r : Result) : Prop :=
  Alters len rd v (resultFlags v s.ccr) s r

/-- The instruction shifts or rotates `rd`: it takes `v`, C becomes `carry` and V `overflow` (R600). -/
def Shifts {w : Nat} (rd : Reg w) (v : BitVec w) (carry overflow : Bool) (s : State) (r : Result) : Prop :=
  Alters 2 rd v { resultFlags v s.ccr with c := carry, v := overflow } s r

/-! ### Decimal adjustment, division and accumulation -/

/-- A row of the tables of R234 and R235. -/
structure DecimalRow where
  /-- C before. -/
  c : Bool
  /-- The upper 4 bits before, from and to. -/
  upper : Nat × Nat
  /-- H before. -/
  h : Bool
  /-- The lower 4 bits before, from and to. -/
  lower : Nat × Nat
  /-- The value added. -/
  added : Byte
  /-- C after. -/
  carry : Bool

/-- The row is for the byte `d` and the flags `c`. -/
def DecimalRow.Covers (row : DecimalRow) (d : Byte) (c : Ccr) : Prop :=
  c.c = row.c ∧ c.h = row.h ∧ row.upper.1 ≤ d.toNat / 16 ∧ d.toNat / 16 ≤ row.upper.2 ∧
    row.lower.1 ≤ d.toNat % 16 ∧ d.toNat % 16 ≤ row.lower.2

/-- The table of R234. -/
def daaTable : List DecimalRow :=
  [⟨false, (0, 9), false, (0, 9), 0x00, false⟩, ⟨false, (0, 8), false, (10, 15), 0x06, false⟩,
   ⟨false, (0, 9), true, (0, 3), 0x06, false⟩, ⟨false, (10, 15), false, (0, 9), 0x60, true⟩,
   ⟨false, (9, 15), false, (10, 15), 0x66, true⟩, ⟨false, (10, 15), true, (0, 3), 0x66, true⟩,
   ⟨true, (0, 2), false, (0, 9), 0x60, true⟩, ⟨true, (0, 2), false, (10, 15), 0x66, true⟩,
   ⟨true, (0, 3), true, (0, 3), 0x66, true⟩]

/-- The table of R235. -/
def dasTable : List DecimalRow :=
  [⟨false, (0, 9), false, (0, 9), 0x00, false⟩, ⟨false, (0, 8), true, (6, 15), 0xFA, false⟩,
   ⟨true, (7, 15), false, (0, 9), 0xA0, true⟩, ⟨true, (6, 15), true, (6, 15), 0x9A, true⟩]

/-- DAA and DAS (R234, R235): by the row that covers the operand, H and V being free; where no row does, the register and the
five flags are free (D15). Nothing else changes. -/
def Adjusts (table : List DecimalRow) (rd : Reg8) (s : State) (r : Result) : Prop :=
  let d := getReg8 s rd
  Completes r fun t =>
    (∀ row ∈ table, row.Covers d s.ccr → ∃ h v : Bool,
      SetsRegister 2 (.b rd) (d + row.added)
        { s.ccr with
          h := h, n := decide ((d + row.added).toInt < 0), z := decide ((d + row.added).toNat = 0), v := v, c := row.carry }
        { s with draws := s.draws + 2 } t) ∧
    ((∀ row ∈ table, ¬ row.Covers d s.ccr) → ∃ (u : Byte) (h n z v c : Bool),
      SetsRegister 2 (.b rd) u { s.ccr with h := h, n := n, z := z, v := v, c := c } { s with draws := s.draws + 2 } t)

/-- DIVXU and DIVXS (R265): the flags are `c`; the register takes `v` where valid results are assured, a free value where they
are not (D17). -/
def Divides {n : Nat} (len : BitVec 24) (rd : Reg n) (assured : Prop) (v : BitVec n) (c : Ccr) (s : State) (r : Result) :
    Prop :=
  Completes r fun t =>
    (assured → SetsRegister len rd v c s t) ∧
      (¬ assured → ∃ any, SetsRegister len rd any c { s with draws := s.draws + 1 } t)

/-- What MAC multiplies and accumulates with MACS = 0 (R279, R280): the 42-bit sum, N-MULT, Z-MULT, and V-MULT that a sum outside
42 signed bits sets. -/
def AccumulatesWrapping (p : Int) (s t : State) : Prop :=
  t.mach ++ t.macl = BitVec.ofInt 42 ((s.mach ++ s.macl).toInt + p) ∧
    t.nMult = decide ((t.mach ++ t.macl).toInt < 0) ∧ t.zMult = decide ((t.mach ++ t.macl).toNat = 0) ∧
    (t.vMult = true ↔ s.vMult = true ∨
      (s.mach ++ s.macl).toInt + p < -2 ^ 41 ∨ 2 ^ 41 ≤ (s.mach ++ s.macl).toInt + p)

/-- The same with MACS = 1: MACL saturates at 32 signed bits; bit 0 of MACH is V-MULT (D32). -/
def AccumulatesSaturating (p : Int) (s t : State) : Prop :=
  t.macl.toInt = max (-2 ^ 31) (min (2 ^ 31 - 1) (s.macl.toInt + p)) ∧
    t.nMult = decide (t.macl.toInt < 0) ∧ t.zMult = decide (t.macl.toNat = 0) ∧
    (t.vMult = true ↔ s.vMult = true ∨ s.macl.toInt + p < -2 ^ 31 ∨ 2 ^ 31 ≤ s.macl.toInt + p) ∧
    t.mach.getLsbD 0 = t.vMult ∧ ∀ j, 0 < j → t.mach.getLsbD j = s.mach.getLsbD j

/-! ### Bits -/

/-- The instruction reads bit `n` of the operand byte as `b` and only sets CCR, to `f b`. -/
def TestsBit (len : BitVec 24) (p : BitPlace) (n : BitNum) (f : Bool → Ccr) (s : State) (r : Result) : Prop :=
  Completes r (SetsCcr len (f ((p.get s).getLsbD n.val)) (beforeCycles p.cycles s))

/-- `v` with bit `n` replaced by `b` is `u`. -/
def BitReplaced (v : Byte) (n : BitNum) (b : Bool) (u : Byte) : Prop :=
  ∀ j : BitNum, u.getLsbD j.val = if j = n then b else v.getLsbD j.val

/-- From `s`, in which the operand byte has been read, to `t` it has become `u`, and nothing else but PC has changed (R704). -/
def WritesByte (len : BitVec 24) : BitPlace → Byte → State → State → Prop
  | .reg rd, u, s, t => SetsRegister len (.b rd) u s.ccr s t
  | .mem ea, u, s, t =>
    readByte t.mem (byteKey s.cfg (ea.addr 1 s)) = u ∧
      SameMemoryOutside [byteKey s.cfg (ea.addr 1 s)] (beforeCycle s) t ∧
      t.ccr = s.ccr ∧ Advanced len s t ∧ SameRegisters s t ∧ Untouched (write8 s (ea.addr 1 s) u) t

/-- The instruction replaces bit `n` of the operand byte, `b`, by `f b` (R702, R704, R705). -/
def ReplacesBit (len : BitVec 24) (p : BitPlace) (n : BitNum) (f : Bool → Bool) (s : State) (r : Result) : Prop :=
  ∃ u, BitReplaced (p.get s) n (f ((p.get s).getLsbD n.val)) u ∧ Completes r (WritesByte len p u (beforeCycles p.cycles s))

/-! ### Control transfer -/

/-- From `s` to `t` only PC has changed, to what an assignment of `target` stores (R28, R29). -/
structure GoesTo (target : BitVec 24) (s t : State) : Prop where
  pc : t.pc = pcValue s.cfg.mode target
  ccr : t.ccr = s.ccr
  registers : SameRegisters s t
  memory : SameMemory s t
  rest : Untouched s t

/-- Bcc (R902): to `next + disp` when `taken`, to `next` when not, `next` being `len` bytes on. -/
def Branches (len disp : BitVec 24) (taken : Bool) (s : State) (r : Result) : Prop :=
  Completes r (GoesTo (if taken then s.pc + len + disp else s.pc + len) s)

/-- BSR and JSR (R901, R939 to R943): the return address, `len` bytes on, is pushed as a word in normal mode, as a longword
with one free byte in advanced mode, and control goes to `target`. -/
def Calls (len target : BitVec 24) (s : State) (r : Result) : Prop :=
  match s.cfg.mode with
  | .normal => Completes r fun t =>
      getER t 7 = getER s 7 - 2 ∧ OtherRegisters 7 s t ∧
      t.mem = (write16 s (getER s 7 - 2) ((s.pc + len).setWidth 16)).mem ∧
      SameMemoryOutside (wordKeys s.cfg (getER s 7 - 2)) (beforeCycle s) t ∧
      t.pc = pcValue .normal target ∧ t.ccr = s.ccr ∧
      Untouched (write16 s (getER s 7 - 2) ((s.pc + len).setWidth 16)) t
  | .advanced => Completes r fun t =>
      getER t 7 = getER s 7 - 4 ∧ OtherRegisters 7 s t ∧
      (∃ reserved : Byte, t.mem = (write32 s (getER s 7 - 4) (reserved ++ (s.pc + len))).mem ∧
        Untouched { write32 s (getER s 7 - 4) (reserved ++ (s.pc + len)) with draws := s.draws + 1 } t) ∧
      SameMemoryOutside (longKeys s.cfg (getER s 7 - 4)) (beforeCycles 2 s) t ∧
      t.pc = pcValue .advanced target ∧ t.ccr = s.ccr

/-- The branch address that @@aa:8 holds (R75). -/
def indirectTarget (s : State) (a : BitVec 8) : BitVec 24 :=
  match s.cfg.mode with
  | .normal => (read16 s (BitVec.ofNat 32 a.toNat)).setWidth 24
  | .advanced => (read32 s (BitVec.ofNat 32 a.toNat)).setWidth 24

/-- RTS (R901, R944): the return address is popped, as a word in normal mode and as a longword in advanced mode. -/
def Returns (s : State) (r : Result) : Prop :=
  let s1 := beforeCycles (addressCycles s.cfg) s
  Completes r fun t =>
    (match s.cfg.mode with
      | .normal => getER t 7 = getER s 7 + 2 ∧ t.pc = pcValue .normal ((read16 s (getER s 7)).setWidth 24)
      | .advanced => getER t 7 = getER s 7 + 4 ∧ t.pc = pcValue .advanced ((read32 s (getER s 7)).setWidth 24)) ∧
    OtherRegisters 7 s t ∧ t.ccr = s.ccr ∧ SameMemory s1 t ∧ Untouched s1 t

/-! ### Kinds of instructions -/

/-- LDC, ANDC, ORC and XORC: the instructions that open the inhibit window (R481). -/
def opensInhibit : Instr → Bool
  | .ldcBImm8CCR .. | .ldcBImm8EXR .. | .ldcBRsCCR .. | .ldcBRsEXR .. | .ldcWAtERsCCR .. | .ldcWD16ERsCCR ..
  | .ldcWD32ERsCCR .. | .ldcWERsIncCCR .. | .ldcWAa16CCR .. | .ldcWAa32CCR .. | .ldcWAtERsEXR .. | .ldcWD16ERsEXR ..
  | .ldcWD32ERsEXR .. | .ldcWERsIncEXR .. | .ldcWAa16EXR .. | .ldcWAa32EXR .. | .andcImm8CCR .. | .andcImm8EXR ..
  | .orcImm8CCR .. | .orcImm8EXR .. | .xorcImm8CCR .. | .xorcImm8EXR .. => true
  | _ => false

/-- The instructions that write EXR (R33, R805). -/
def writesExr : Instr → Bool
  | .rte | .ldcBImm8EXR .. | .ldcBRsEXR .. | .ldcWAtERsEXR .. | .ldcWD16ERsEXR .. | .ldcWD32ERsEXR ..
  | .ldcWERsIncEXR .. | .ldcWAa16EXR .. | .ldcWAa32EXR .. | .andcImm8EXR .. | .orcImm8EXR .. | .xorcImm8EXR .. => true
  | _ => false

/-- The instructions that write MACH, MACL or a multiplier flag (R40, R280). -/
def writesMac : Instr → Bool
  | .macERnIncERmInc .. | .clrmac | .ldmacERsMACH .. | .ldmacERsMACL .. => true
  | _ => false

/-- The instructions of the MAC group, which the H8S/2000 does not have (R115, D2). -/
def inMacGroup : Instr → Bool
  | .macERnIncERmInc .. | .clrmac | .ldmacERsMACH .. | .ldmacERsMACL .. | .stmacMACHERd .. | .stmacMACLERd .. => true
  | _ => false

/-! ### Exceptions -/

/-- The address that vector `v` holds in the memory of `s` (R73, R74). -/
def vectorAddress (s : State) (v : Nat) : BitVec 24 :=
  match s.cfg.mode with
  | .normal => (read16 s (BitVec.ofNat 32 (2 * v))).setWidth 24
  | .advanced => (read32 s (BitVec.ofNat 32 (4 * v))).setWidth 24

/-- How many bytes an exception frame has (R802). -/
def frameSize (s : State) : Long := if exrValid s.cfg then 6 else 4

/-- The byte beside CCR in an exception frame (R802): CCR again in normal mode, PC bits 23 to 16 in advanced mode. -/
def frameUpper (s : State) (ret : BitVec 24) : Byte :=
  match s.cfg.mode with
  | .normal => s.ccr.toByte
  | .advanced => ret.extractLsb' 16 8

/-- `s` after the words of the exception frame of return address `ret` have been stored, in this order (R802): PC bits 15 to 0,
above it CCR beside the byte `frameUpper`, and where EXR is valid EXR beside the byte `any`. -/
def frameStored (s : State) (ret : BitVec 24) (any : Byte) : State :=
  let u := write16 (write16 s (getER s 7 - 2) (ret.setWidth 16)) (getER s 7 - 4) (s.ccr.toByte ++ frameUpper s ret)
  if exrValid s.cfg then write16 u (getER s 7 - 6) (s.exr.toByte ++ any) else u

/-- The bus cycles in which an exception frame is stored (R68). -/
def frameCycles (s : State) : Nat := if exrValid s.cfg then 3 else 2

/-- What a bus cycle reads or changes is the same: memory, its noted changes, the parameters, and what the environment does
next. -/
structure SameBus (s t : State) : Prop where
  mem : t.mem = s.mem
  writes : t.writes = s.writes
  cfg : t.cfg = s.cfg
  acts : t.env.acts = s.env.acts

/-- The keys of the bytes of an exception frame. -/
def frameKeys (s : State) : List Nat :=
  wordKeys s.cfg (getER s 7 - 2) ++ wordKeys s.cfg (getER s 7 - 4) ++
    (if exrValid s.cfg then wordKeys s.cfg (getER s 7 - 6) else [])

/-- From `s` to `t` an exception with return address `ret` and vector `v` has been taken that leaves `x` in EXR (R474, R475,
R476, R804): the frame is stored, one byte of it not being determined, then the vector is read. MACH, MACL, the multiplier flags,
the parameters and all registers but ER7 are unchanged. -/
structure TakesException (ret : BitVec 24) (v : Nat) (x : Exr) (s t : State) : Prop where
  sp : getER t 7 = getER s 7 - frameSize s
  others : OtherRegisters 7 s t
  frame : ∃ any : Byte, let u := frameStored s ret any
    SameBus (beforeCycles (addressCycles s.cfg) u) t ∧ t.pc = pcValue s.cfg.mode (vectorAddress u v)
  memory : SameMemoryOutside (frameKeys s) (beforeCycles (frameCycles s + addressCycles s.cfg) s) t
  ccr : t.ccr = { s.ccr with i := true, ui := s.ccr.ui || s.cfg.uiIsMask }
  exr : t.exr = x
  mac : t.mach = s.mach ∧ t.macl = s.macl ∧ t.nMult = s.nMult ∧ t.zMult = s.zMult ∧ t.vMult = s.vMult

/-! ### CCR and EXR -/

/-- The byte that LDC.W and a return from an exception use of the word that the next bus cycle reads at `a`: the one at its even
address. -/
def evenByte (s : State) (a : Long) : Byte := readByte (beforeCycle s).mem (wordKey s.cfg a)

/-- CCR with its bits taken from `v` (R34, R800). -/
def ccrOf (v : Byte) : Ccr :=
  ⟨v.getLsbD 7, v.getLsbD 6, v.getLsbD 5, v.getLsbD 4, v.getLsbD 3, v.getLsbD 2, v.getLsbD 1, v.getLsbD 0⟩

/-- EXR with its bits taken from `v`: T from bit 7, I2 to I0 from bits 2 to 0 (R30, R800). -/
def exrOf (v : Byte) : Exr := ⟨v.getLsbD 7, v.extractLsb' 0 3⟩

/-- From `s` to `t` CCR has been loaded from `v`: nothing else changes but PC, and the inhibit window is open (R801). -/
def LoadsCcr (len : BitVec 24) (v : Byte) (s : State) (r : Result) : Prop :=
  Completes r (SetsCcr len (ccrOf v) { s with inhibit := true })

/-- EXR has been loaded from `v`, CCR is kept, and the inhibit window is open (R801). -/
def LoadsExr (len : BitVec 24) (v : Byte) (s : State) (r : Result) : Prop :=
  Completes r (SetsCcr len s.ccr { s with inhibit := true, exr := exrOf v })

/-- STC.W (R832 to R843): `v` stands at the even address; the byte beside it is not determined (D16); CCR is kept. -/
def StoresControl (len : BitVec 24) (v : Byte) (ea : Ea) (s : State) (r : Result) : Prop :=
  let s1 := ea.update 2 s
  Completes r fun t =>
    readByte t.mem (wordKey s.cfg (ea.addr 2 s)) = v ∧
      SameMemoryOutside (wordKeys s.cfg (ea.addr 2 s)) (beforeCycle s) t ∧ t.ccr = s.ccr ∧
      Advanced len s t ∧ SameRegisters s1 t ∧
      ∃ any : Byte, t.mem = (write16 s (ea.addr 2 s) (v ++ any)).mem ∧
        Untouched { write16 s (ea.addr 2 s) (v ++ any) with draws := s.draws + 1 } t

/-- `s` when the word of EXR, where the frame has one, has been read. -/
def exrRead (s : State) : State := if exrValid s.cfg then beforeCycle s else s

/-- From `s` to `t` control has returned from an exception (R805): EXR, where it is valid, CCR and PC are what the frame at ER7
holds, ER7 is past the frame, and no trace follows at the next boundary. -/
structure ReturnsFromException (s t : State) : Prop where
  sp : getER t 7 = getER s 7 + frameSize s
  others : OtherRegisters 7 s t
  ccr : t.ccr = ccrOf (evenByte (exrRead s) (getER s 7 + (if exrValid s.cfg then 2 else 0)))
  pc : t.pc = match s.cfg.mode with
    | .normal =>
      pcValue .normal ((read16 (beforeCycle (exrRead s)) (getER s 7 + (if exrValid s.cfg then 4 else 2))).setWidth 24)
    | .advanced => pcValue .advanced
        ((read16 (exrRead s) (getER s 7 + (if exrValid s.cfg then 2 else 0))).extractLsb' 0 8 ++
          read16 (beforeCycle (exrRead s)) (getER s 7 + (if exrValid s.cfg then 4 else 2)))
  memory : SameMemory (beforeCycles 2 (exrRead s)) t
  rest : Untouched { beforeCycles 2 (exrRead s) with
    noTrace := true, exr := if exrValid s.cfg then exrOf (evenByte s (getER s 7)) else s.exr } t

/-! ### Register lists and block transfer -/

/-- From `s` to `t` LDM has loaded `count` registers from `highest` downwards (R189): register `highest - j` from the longword
`4 j` bytes above ER7. ER7 ends past the list; when it is in the list it holds a free value (D30), and
its slot is passed over (DEDUCED, DT-55; log 26). -/
structure LoadsList (count : Nat) (highest : RegNum) (s t : State) : Prop where
  loaded : ∀ j, j < count → highest - Fin.ofNat 8 j ≠ 7 →
    getER t (highest - Fin.ofNat 8 j) = read32 (beforeCycles (2 * j) s) (getER s 7 + 4 * BitVec.ofNat 32 j)
  others : ∀ m, m ≠ 7 → (∀ j, j < count → m ≠ highest - Fin.ofNat 8 j) → getER t m = getER s m
  sp : highest ≠ 7 → getER t 7 = getER s 7 + 4 * BitVec.ofNat 32 count
  ccr : t.ccr = s.ccr
  pc : Advanced 4 s t
  memory : SameMemory (beforeCycles (2 * count) s) t
  rest : Untouched { beforeCycles (2 * count) s with draws := if highest = 7 then s.draws + 1 else s.draws } t

/-- `s` after STM's stores, one slot after the other: register `lowest + j` at `base - 4 (j + 1)` (R190); for ER7 the value
is the address of its own slot (R193). -/
def stmStores (count : Nat) (lowest : RegNum) (s : State) : State :=
  (List.range count).foldl (fun u j =>
    let a := getER s 7 - 4 * BitVec.ofNat 32 (j + 1)
    let r := lowest + Fin.ofNat 8 j
    write32 u a (if r = 7 then a else getER s r)) s

/-- The keys of the slots that STM stores to. -/
def stmKeys (count : Nat) (s : State) : List Nat :=
  (List.range count).flatMap fun j => longKeys s.cfg (getER s 7 - 4 * BitVec.ofNat 32 (j + 1))

/-- From `s` to `t` STM has stored `count` registers from `lowest` upwards (R190). -/
structure StoresList (count : Nat) (lowest : RegNum) (s t : State) : Prop where
  stored : t.mem = (stmStores count lowest s).mem
  memory : SameMemoryOutside (stmKeys count s) (beforeCycles (2 * count) s) t
  sp : getER t 7 = getER s 7 - 4 * BitVec.ofNat 32 count
  others : OtherRegisters 7 s t
  ccr : t.ccr = s.ccr
  pc : Advanced 4 s t
  rest : Untouched (stmStores count lowest s) t

/-- `s` after `n` bytes of memory have been moved one by one, in ascending order, from @ER5 to @ER6 (R451, R452). -/
def movedBytes (n : Nat) (s : State) : State :=
  (List.range n).foldl (fun u j =>
    write8 (beforeCycle u) (getER s 6 + BitVec.ofNat 32 j) (read8 u (getER s 5 + BitVec.ofNat 32 j))) s

/-- The keys that the first `n` bytes of a block transfer are moved to. -/
def movedKeys (n : Nat) (s : State) : List Nat :=
  (List.range n).map fun j => byteKey s.cfg (getER s 6 + BitVec.ofNat 32 j)

/-- From `s` to `t` a block transfer has moved `n` bytes (R451, R452): they are copied one by one, ER5 and ER6 are up by `n`,
and nothing else but R4, PC, the offers and the environment's acts that have come up has changed. -/
structure BlockMoved (n : Nat) (s t : State) : Prop where
  memory : t.mem = (movedBytes n s).mem
  outside : SameMemoryOutside (movedKeys n s) (beforeCycles (2 * n) s) t
  source : getER t 5 = getER s 5 + BitVec.ofNat 32 n
  target : getER t 6 = getER s 6 + BitVec.ofNat 32 n
  upper : getReg16 t (.e 4) = getReg16 s (.e 4)
  others : ∀ m, m ≠ 4 → m ≠ 5 → m ≠ 6 → getER t m = getER s m
  ccr : t.ccr = s.ccr
  inputs : t.env.inputs = s.env.inputs
  acts : t.env.acts = (movedBytes n s).env.acts
  rest : Untouched { movedBytes n s with env := t.env } t

/-- The offers that stand at the examination after byte `j` of EEPMOV.W, counted from 1 (R452, R477; log 15): at granularity
`bus_cycle` one is gone for each examination before, but the last offer stays; at granularity `instruction` none is. -/
def offersAt (j : Nat) (s : State) : List (Option Request) :=
  match s.cfg.granularity with
  | .instruction => s.env.offers
  | .busCycle => if s.inhibit then s.env.offers else s.env.offers.drop (min (j - 1) (s.env.offers.length - 1))

/-- A request is accepted at the examination after byte `j` of EEPMOV.W. -/
def acceptedAt (j : Nat) (s : State) : Bool :=
  (acceptedRequest { s with env := { s.env with offers := offersAt j s } }).isSome

/-! ### The machine between instructions -/

/-- The words at `next` and `next + 2` of an instruction of `len` bytes at PC (R85). -/
def prefetchWindow (len : Nat) (s : State) : List Nat :=
  wordKeys s.cfg ((s.pc + BitVec.ofNat 24 len).setWidth 32) ++ wordKeys s.cfg ((s.pc + BitVec.ofNat 24 (len + 2)).setWidth 32)

/-- One of these changes of memory, the CPU's or the environment's, stores into one of these bytes. -/
def StoresInto (keys : List Nat) (changes : List MemoryChange) : Prop :=
  ∃ change ∈ changes, ∃ cell ∈ changedCells change, cell.1.toNat ∈ keys

/-- The environment's next act stores into the word at PC or PC + 2 (R85). -/
def ActsOnCode (s : State) : Prop := ∃ act ∈ s.env.acts.take 1, ∃ cell ∈ act, cell.1.toNat ∈ prefetchWindow 0 s

/-- The state at the boundary with which a step begins (R81): the environment's next act, if there is one, is performed, no change
of memory is noted yet, and a word that may have been prefetched is out of date where the environment has stored into it. -/
structure AtBoundary (s b : State) : Prop where
  mem : b.mem = (s.env.acts.take 1).foldl performCycle s.mem
  env : b.env = { s.env with acts := s.env.acts.drop 1 }
  writes : b.writes = []
  stale : b.stale = true ↔ s.stale = true ∨ ActsOnCode s
  registers : b.er = s.er ∧ b.pc = s.pc ∧ b.ccr = s.ccr ∧ b.exr = s.exr
  mac : b.mach = s.mach ∧ b.macl = s.macl ∧ b.nMult = s.nMult ∧ b.zMult = s.zMult ∧ b.vMult = s.vMult
  rest : b.cfg = s.cfg ∧ b.procState = s.procState ∧ b.inhibit = s.inhibit ∧ b.noTrace = s.noTrace ∧ b.draws = s.draws

/-- `Masked(req)` says so (R479): by D9's default in interrupt control modes 0 and 2, by the product's function where the
product gives one, and in modes 1 and 3, which have no default (log 15). -/
def Masks (s : State) (req : Request) (b : Bool) : Prop :=
  s.cfg.maskRule = .standard ∧ s.cfg.intm = .mode0 ∧ s.ccr.i = b ∨
  s.cfg.maskRule = .standard ∧ s.cfg.intm = .mode2 ∧ decide (req.level.toNat ≤ s.exr.level.toNat) = b ∨
  (s.cfg.maskRule = .product ∨ s.cfg.intm = .mode1 ∨ s.cfg.intm = .mode3) ∧
    Config.maskedByProduct s.cfg.intm s.ccr.i s.ccr.ui s.exr.level req = b

/-- RES or STBY, being low, is seen at the boundary (R520, D13). -/
def State.SeenAtBoundary (s : State) : Prop :=
  s.cfg.granularity = .instruction ∨ s.env.arrival = .boundary ∨ s.procState = .reset

/-- How many write cycles of the CPU are among these changes of memory. -/
def cpuCycles (changes : List MemoryChange) : Nat :=
  changes.countP fun change =>
    match change with
    | .cpu _ => true
    | .environment _ => false

/-- Of `changes` of memory, in the order of time, `done` are those performed when they are cut short after `n` write cycles (R520):
all of them, or those before the CPU's write cycle number `n + 1`. -/
def CutAfter (n : Nat) (changes done : List MemoryChange) : Prop :=
  ∃ rest, changes = done ++ rest ∧
    (rest = [] ∧ cpuCycles done ≤ n ∨ cpuCycles done = n ∧ ∃ c later, rest = .cpu c :: later)

/-- What the CPU went on to do from `s` was abandoned when `done` had changed memory (R520): `u` has the memory of these changes
and no others, and what the environment has not written yet is still to come. -/
structure LeavesChanges (done : List MemoryChange) (s u : State) : Prop where
  memory : u.mem = done.foldl performChange s.mem
  acts : s.env.acts = environmentWrites done ++ u.env.acts
  cfg : u.cfg = s.cfg
  inputs : u.env.inputs = s.env.inputs

end Sys2Proof.Machine
end

