-- ==== Sys2Proof/Certificates/Slice0/Obligations.lean ====
section
/-! DEFINITION. The statements for the provers, in the vocabulary of Safety.lean: one for each group of instructions of one shape
(result, flags, stored bytes, frame, and that it completes), then the machine's own. -/

open Sys2Proof Sys2Proof.Machine

/-- MOV between registers and from immediates: result, flags, frame (R140 with R141 to R146). -/
def Obligations.MovRegisterSetsDestinationAndFlags : Prop :=
  (∀ (rs : Reg8) (rd : Reg8) (s : State), Transfers 2 (.b rd) (getReg8 s rs) s (exec (.movBRsRd rs rd) s)) ∧
  (∀ (rs : Reg16) (rd : Reg16) (s : State), Transfers 2 (.w rd) (getReg16 s rs) s (exec (.movWRsRd rs rd) s)) ∧
  (∀ (ers : RegNum) (erd : RegNum) (s : State), Transfers 2 (.l erd) (getER s ers) s (exec (.movLERsERd ers erd) s)) ∧
  (∀ (imm : BitVec 8) (rd : Reg8) (s : State), Transfers 2 (.b rd) imm s (exec (.movBImm8Rd imm rd) s)) ∧
  (∀ (imm : BitVec 16) (rd : Reg16) (s : State), Transfers 4 (.w rd) imm s (exec (.movWImm16Rd imm rd) s)) ∧
  (∀ (imm : BitVec 32) (erd : RegNum) (s : State), Transfers 6 (.l erd) imm s (exec (.movLImm32ERd imm erd) s))

/-- MOV from memory, POP and MOVFPE: result, flags, address register, frame (R140, R193 (D29, log 25), R147 to R165,
R185, R186, R191; the environment between bus cycles: R81, log 22). -/
def Obligations.LoadsSetDestinationFromMemory : Prop :=
  (∀ (ers : RegNum) (rd : Reg8) (s : State), Loads 2 (.ind ers) (.b rd) s (exec (.movBAtERsRd ers rd) s)) ∧
  (∀ (ers : RegNum) (disp : BitVec 16) (rd : Reg8) (s : State),
    Loads 4 (.disp16 ers disp) (.b rd) s (exec (.movBD16ERsRd ers disp rd) s)) ∧
  (∀ (ers : RegNum) (disp : BitVec 32) (rd : Reg8) (s : State),
    Loads 8 (.disp32 ers disp) (.b rd) s (exec (.movBD32ERsRd ers disp rd) s)) ∧
  (∀ (ers : RegNum) (rd : Reg8) (s : State), Loads 2 (.postInc ers) (.b rd) s (exec (.movBERsIncRd ers rd) s)) ∧
  (∀ (abs : BitVec 8) (rd : Reg8) (s : State), Loads 2 (.abs8 abs) (.b rd) s (exec (.movBAa8Rd abs rd) s)) ∧
  (∀ (abs : BitVec 16) (rd : Reg8) (s : State), Loads 4 (.abs16 abs) (.b rd) s (exec (.movBAa16Rd abs rd) s)) ∧
  (∀ (abs : BitVec 32) (rd : Reg8) (s : State), Loads 6 (.abs32 abs) (.b rd) s (exec (.movBAa32Rd abs rd) s)) ∧
  (∀ (ers : RegNum) (rd : Reg16) (s : State), Loads 2 (.ind ers) (.w rd) s (exec (.movWAtERsRd ers rd) s)) ∧
  (∀ (ers : RegNum) (disp : BitVec 16) (rd : Reg16) (s : State),
    Loads 4 (.disp16 ers disp) (.w rd) s (exec (.movWD16ERsRd ers disp rd) s)) ∧
  (∀ (ers : RegNum) (disp : BitVec 32) (rd : Reg16) (s : State),
    Loads 8 (.disp32 ers disp) (.w rd) s (exec (.movWD32ERsRd ers disp rd) s)) ∧
  (∀ (ers : RegNum) (rd : Reg16) (s : State), Loads 2 (.postInc ers) (.w rd) s (exec (.movWERsIncRd ers rd) s)) ∧
  (∀ (abs : BitVec 16) (rd : Reg16) (s : State), Loads 4 (.abs16 abs) (.w rd) s (exec (.movWAa16Rd abs rd) s)) ∧
  (∀ (abs : BitVec 32) (rd : Reg16) (s : State), Loads 6 (.abs32 abs) (.w rd) s (exec (.movWAa32Rd abs rd) s)) ∧
  (∀ (ers : RegNum) (erd : RegNum) (s : State), Loads 4 (.ind ers) (.l erd) s (exec (.movLAtERsERd ers erd) s)) ∧
  (∀ (ers : RegNum) (disp : BitVec 16) (erd : RegNum) (s : State),
    Loads 6 (.disp16 ers disp) (.l erd) s (exec (.movLD16ERsERd ers disp erd) s)) ∧
  (∀ (ers : RegNum) (disp : BitVec 32) (erd : RegNum) (s : State),
    Loads 10 (.disp32 ers disp) (.l erd) s (exec (.movLD32ERsERd ers disp erd) s)) ∧
  (∀ (ers : RegNum) (erd : RegNum) (s : State), Loads 4 (.postInc ers) (.l erd) s (exec (.movLERsIncERd ers erd) s)) ∧
  (∀ (abs : BitVec 16) (erd : RegNum) (s : State), Loads 6 (.abs16 abs) (.l erd) s (exec (.movLAa16ERd abs erd) s)) ∧
  (∀ (abs : BitVec 32) (erd : RegNum) (s : State), Loads 8 (.abs32 abs) (.l erd) s (exec (.movLAa32ERd abs erd) s)) ∧
  (∀ (rn : Reg16) (s : State), Loads 2 (.postInc 7) (.w rn) s (exec (.popWRn rn) s)) ∧
  (∀ (ern : RegNum) (s : State), Loads 4 (.postInc 7) (.l ern) s (exec (.popLERn ern) s)) ∧
  (∀ (abs : BitVec 16) (rd : Reg8) (s : State), Loads 4 (.abs16 abs) (.b rd) s (exec (.movfpeAa16Rd abs rd) s))

/-- MOV to memory, PUSH and MOVTPE: the bytes stored, flags, address register, frame (R140, R193, R66, R166 to R184,
R187, R188, R192; the environment between bus cycles: R81, log 22). -/
def Obligations.StoresWriteRegisterToMemory : Prop :=
  (∀ (rs : Reg8) (erd : RegNum) (s : State), Stores 2 (.b rs) (.ind erd) s (exec (.movBRsAtERd rs erd) s)) ∧
  (∀ (rs : Reg8) (erd : RegNum) (disp : BitVec 16) (s : State),
    Stores 4 (.b rs) (.disp16 erd disp) s (exec (.movBRsD16ERd rs erd disp) s)) ∧
  (∀ (rs : Reg8) (erd : RegNum) (disp : BitVec 32) (s : State),
    Stores 8 (.b rs) (.disp32 erd disp) s (exec (.movBRsD32ERd rs erd disp) s)) ∧
  (∀ (rs : Reg8) (erd : RegNum) (s : State), Stores 2 (.b rs) (.preDec erd) s (exec (.movBRsDecERd rs erd) s)) ∧
  (∀ (rs : Reg8) (abs : BitVec 8) (s : State), Stores 2 (.b rs) (.abs8 abs) s (exec (.movBRsAa8 rs abs) s)) ∧
  (∀ (rs : Reg8) (abs : BitVec 16) (s : State), Stores 4 (.b rs) (.abs16 abs) s (exec (.movBRsAa16 rs abs) s)) ∧
  (∀ (rs : Reg8) (abs : BitVec 32) (s : State), Stores 6 (.b rs) (.abs32 abs) s (exec (.movBRsAa32 rs abs) s)) ∧
  (∀ (rs : Reg16) (erd : RegNum) (s : State), Stores 2 (.w rs) (.ind erd) s (exec (.movWRsAtERd rs erd) s)) ∧
  (∀ (rs : Reg16) (erd : RegNum) (disp : BitVec 16) (s : State),
    Stores 4 (.w rs) (.disp16 erd disp) s (exec (.movWRsD16ERd rs erd disp) s)) ∧
  (∀ (rs : Reg16) (erd : RegNum) (disp : BitVec 32) (s : State),
    Stores 8 (.w rs) (.disp32 erd disp) s (exec (.movWRsD32ERd rs erd disp) s)) ∧
  (∀ (rs : Reg16) (erd : RegNum) (s : State), Stores 2 (.w rs) (.preDec erd) s (exec (.movWRsDecERd rs erd) s)) ∧
  (∀ (rs : Reg16) (abs : BitVec 16) (s : State), Stores 4 (.w rs) (.abs16 abs) s (exec (.movWRsAa16 rs abs) s)) ∧
  (∀ (rs : Reg16) (abs : BitVec 32) (s : State), Stores 6 (.w rs) (.abs32 abs) s (exec (.movWRsAa32 rs abs) s)) ∧
  (∀ (ers : RegNum) (erd : RegNum) (s : State), Stores 4 (.l ers) (.ind erd) s (exec (.movLERsAtERd ers erd) s)) ∧
  (∀ (ers : RegNum) (erd : RegNum) (disp : BitVec 16) (s : State),
    Stores 6 (.l ers) (.disp16 erd disp) s (exec (.movLERsD16ERd ers erd disp) s)) ∧
  (∀ (ers : RegNum) (erd : RegNum) (disp : BitVec 32) (s : State),
    Stores 10 (.l ers) (.disp32 erd disp) s (exec (.movLERsD32ERd ers erd disp) s)) ∧
  (∀ (ers : RegNum) (erd : RegNum) (s : State), Stores 4 (.l ers) (.preDec erd) s (exec (.movLERsDecERd ers erd) s)) ∧
  (∀ (ers : RegNum) (abs : BitVec 16) (s : State), Stores 6 (.l ers) (.abs16 abs) s (exec (.movLERsAa16 ers abs) s)) ∧
  (∀ (ers : RegNum) (abs : BitVec 32) (s : State), Stores 8 (.l ers) (.abs32 abs) s (exec (.movLERsAa32 ers abs) s)) ∧
  (∀ (rn : Reg16) (s : State), Stores 2 (.w rn) (.preDec 7) s (exec (.pushWRn rn) s)) ∧
  (∀ (ern : RegNum) (s : State), Stores 4 (.l ern) (.preDec 7) s (exec (.pushLERn ern) s)) ∧
  (∀ (rs : Reg8) (abs : BitVec 16) (s : State), Stores 4 (.b rs) (.abs16 abs) s (exec (.movtpeRsAa16 rs abs) s))

/-- LDM.L: the listed registers, ER7, frame (R189; with ER7 in the list it ends at a free value, D30, and its slot is
passed over, DEDUCED from DT-55, log 26; the environment between bus cycles: R81, log 22). -/
def Obligations.LdmLoadsListedRegisters : Prop :=
  (∀ (rn : RegNum) (s : State), ldmListed 2 rn = true → Completes (exec (.ldmL2 rn) s) (LoadsList 2 rn s)) ∧
  (∀ (rn : RegNum) (s : State), ldmListed 3 rn = true → Completes (exec (.ldmL3 rn) s) (LoadsList 3 rn s)) ∧
  (∀ (rn : RegNum) (s : State), ldmListed 4 rn = true → Completes (exec (.ldmL4 rn) s) (LoadsList 4 rn s))

/-- STM.L: the slots stored, ER7, frame (R190, R193; the environment between bus cycles: R81, log 22). -/
def Obligations.StmStoresListedRegisters : Prop :=
  (∀ (rn : RegNum) (s : State), stmListed 2 rn = true → Completes (exec (.stmL2 rn) s) (StoresList 2 rn s)) ∧
  (∀ (rn : RegNum) (s : State), stmListed 3 rn = true → Completes (exec (.stmL3 rn) s) (StoresList 3 rn s)) ∧
  (∀ (rn : RegNum) (s : State), stmListed 4 rn = true → Completes (exec (.stmL4 rn) s) (StoresList 4 rn s))

/-- ADD: sum, H, N, Z, V, C as carries and signed overflow, frame (R200, for R203 to R208). -/
def Obligations.AddSetsSumAndCarryFlags : Prop :=
  (∀ (imm : BitVec 8) (rd : Reg8) (s : State), Adds 2 (.b rd) imm s (exec (.addBImm8Rd imm rd) s)) ∧
  (∀ (rs : Reg8) (rd : Reg8) (s : State), Adds 2 (.b rd) (getReg8 s rs) s (exec (.addBRsRd rs rd) s)) ∧
  (∀ (imm : BitVec 16) (rd : Reg16) (s : State), Adds 4 (.w rd) imm s (exec (.addWImm16Rd imm rd) s)) ∧
  (∀ (rs : Reg16) (rd : Reg16) (s : State), Adds 2 (.w rd) (getReg16 s rs) s (exec (.addWRsRd rs rd) s)) ∧
  (∀ (imm : BitVec 32) (erd : RegNum) (s : State), Adds 6 (.l erd) imm s (exec (.addLImm32ERd imm erd) s)) ∧
  (∀ (ers : RegNum) (erd : RegNum) (s : State), Adds 2 (.l erd) (getER s ers) s (exec (.addLERsERd ers erd) s))

/-- ADDX and SUBX: result with carry, flags, Z kept only on a zero result, frame (R202, for R212, R213, R222, R223).
-/
def Obligations.AddxSubxAccumulateZero : Prop :=
  (∀ (imm : BitVec 8) (rd : Reg8) (s : State),
    let d := getReg8 s rd
    let v := d + imm + (BitVec.ofBool s.ccr.c).setWidth 8
    Alters 2 (.b rd) v { sumFlags d imm s.ccr.c v s.ccr with z := s.ccr.z && decide (v.toNat = 0) } s (exec
      (.addxImm8Rd imm rd) s)) ∧
  (∀ (rs : Reg8) (rd : Reg8) (s : State),
    let d := getReg8 s rd
    let v := d + (getReg8 s rs) + (BitVec.ofBool s.ccr.c).setWidth 8
    Alters 2 (.b rd) v { sumFlags d (getReg8 s rs) s.ccr.c v s.ccr with z := s.ccr.z && decide (v.toNat = 0) } s
      (exec (.addxRsRd rs rd) s)) ∧
  (∀ (imm : BitVec 8) (rd : Reg8) (s : State),
    let d := getReg8 s rd
    let v := d - imm - (BitVec.ofBool s.ccr.c).setWidth 8
    Alters 2 (.b rd) v { differenceFlags d imm s.ccr.c v s.ccr with z := s.ccr.z && decide (v.toNat = 0) } s (exec
      (.subxImm8Rd imm rd) s)) ∧
  (∀ (rs : Reg8) (rd : Reg8) (s : State),
    let d := getReg8 s rd
    let v := d - (getReg8 s rs) - (BitVec.ofBool s.ccr.c).setWidth 8
    Alters 2 (.b rd) v { differenceFlags d (getReg8 s rs) s.ccr.c v s.ccr with z := s.ccr.z && decide (v.toNat = 0) }
      s (exec (.subxRsRd rs rd) s))

/-- SUB and NEG: difference, H, N, Z, V, C as borrows and signed overflow, frame (R201, for R214 to R218 and R243 to
R245). -/
def Obligations.SubAndNegSetDifferenceAndBorrowFlags : Prop :=
  (∀ (rs : Reg8) (rd : Reg8) (s : State), Subtracts 2 (.b rd) (getReg8 s rs) s (exec (.subBRsRd rs rd) s)) ∧
  (∀ (imm : BitVec 16) (rd : Reg16) (s : State), Subtracts 4 (.w rd) imm s (exec (.subWImm16Rd imm rd) s)) ∧
  (∀ (rs : Reg16) (rd : Reg16) (s : State), Subtracts 2 (.w rd) (getReg16 s rs) s (exec (.subWRsRd rs rd) s)) ∧
  (∀ (imm : BitVec 32) (erd : RegNum) (s : State), Subtracts 6 (.l erd) imm s (exec (.subLImm32ERd imm erd) s)) ∧
  (∀ (ers : RegNum) (erd : RegNum) (s : State), Subtracts 2 (.l erd) (getER s ers) s (exec (.subLERsERd ers erd) s)) ∧
  (∀ (rd : Reg8) (s : State),
    Alters 2 (.b rd) (0 - (getReg8 s rd)) (differenceFlags 0 (getReg8 s rd) false (0 - (getReg8 s rd)) s.ccr) s (exec
      (.negBRd rd) s)) ∧
  (∀ (rd : Reg16) (s : State),
    Alters 2 (.w rd) (0 - (getReg16 s rd)) (differenceFlags 0 (getReg16 s rd) false (0 - (getReg16 s rd)) s.ccr) s
      (exec (.negWRd rd) s)) ∧
  (∀ (erd : RegNum) (s : State),
    Alters 2 (.l erd) (0 - (getER s erd)) (differenceFlags 0 (getER s erd) false (0 - (getER s erd)) s.ccr) s (exec
      (.negLERd erd) s))

/-- CMP: the flags of the subtraction and nothing else (R201, for R224 to R229). -/
def Obligations.CmpSetsFlagsOnly : Prop :=
  (∀ (imm : BitVec 8) (rd : Reg8) (s : State), Compares 2 (.b rd) imm s (exec (.cmpBImm8Rd imm rd) s)) ∧
  (∀ (rs : Reg8) (rd : Reg8) (s : State), Compares 2 (.b rd) (getReg8 s rs) s (exec (.cmpBRsRd rs rd) s)) ∧
  (∀ (imm : BitVec 16) (rd : Reg16) (s : State), Compares 4 (.w rd) imm s (exec (.cmpWImm16Rd imm rd) s)) ∧
  (∀ (rs : Reg16) (rd : Reg16) (s : State), Compares 2 (.w rd) (getReg16 s rs) s (exec (.cmpWRsRd rs rd) s)) ∧
  (∀ (imm : BitVec 32) (erd : RegNum) (s : State), Compares 6 (.l erd) imm s (exec (.cmpLImm32ERd imm erd) s)) ∧
  (∀ (ers : RegNum) (erd : RegNum) (s : State), Compares 2 (.l erd) (getER s ers) s (exec (.cmpLERsERd ers erd) s))

/-- ADDS and SUBS: the register by 1, 2 or 4, no flag (R209 to R211, R219 to R221). -/
def Obligations.AddsSubsKeepFlags : Prop :=
  (∀ (erd : RegNum) (s : State), Alters 2 (.l erd) (getER s erd + 1) s.ccr s (exec (.addsBy1ERd erd) s)) ∧
  (∀ (erd : RegNum) (s : State), Alters 2 (.l erd) (getER s erd + 2) s.ccr s (exec (.addsBy2ERd erd) s)) ∧
  (∀ (erd : RegNum) (s : State), Alters 2 (.l erd) (getER s erd + 4) s.ccr s (exec (.addsBy4ERd erd) s)) ∧
  (∀ (erd : RegNum) (s : State), Alters 2 (.l erd) (getER s erd - 1) s.ccr s (exec (.subsBy1ERd erd) s)) ∧
  (∀ (erd : RegNum) (s : State), Alters 2 (.l erd) (getER s erd - 2) s.ccr s (exec (.subsBy2ERd erd) s)) ∧
  (∀ (erd : RegNum) (s : State), Alters 2 (.l erd) (getER s erd - 4) s.ccr s (exec (.subsBy4ERd erd) s))

/-- INC and DEC: result, N, Z, V, frame (R230 to R232 and R236 to R242). -/
def Obligations.IncDecSetSignedOverflow : Prop :=
  (∀ (rd : Reg8) (s : State), Counts 2 (.b rd) 1 s (exec (.incBRd rd) s)) ∧
  (∀ (rd : Reg16) (s : State), Counts 2 (.w rd) 1 s (exec (.incWBy1Rd rd) s)) ∧
  (∀ (rd : Reg16) (s : State), Counts 2 (.w rd) 2 s (exec (.incWBy2Rd rd) s)) ∧
  (∀ (erd : RegNum) (s : State), Counts 2 (.l erd) 1 s (exec (.incLBy1ERd erd) s)) ∧
  (∀ (erd : RegNum) (s : State), Counts 2 (.l erd) 2 s (exec (.incLBy2ERd erd) s)) ∧
  (∀ (rd : Reg8) (s : State), Counts 2 (.b rd) (-1) s (exec (.decBRd rd) s)) ∧
  (∀ (rd : Reg16) (s : State), Counts 2 (.w rd) (-1) s (exec (.decWBy1Rd rd) s)) ∧
  (∀ (rd : Reg16) (s : State), Counts 2 (.w rd) (-2) s (exec (.decWBy2Rd rd) s)) ∧
  (∀ (erd : RegNum) (s : State), Counts 2 (.l erd) (-1) s (exec (.decLBy1ERd erd) s)) ∧
  (∀ (erd : RegNum) (s : State), Counts 2 (.l erd) (-2) s (exec (.decLBy2ERd erd) s))

/-- DAA and DAS: the tables, with free values where nothing is assured (R234, R235; D15, log 8). -/
def Obligations.DecimalAdjustFollowsTables : Prop :=
  (∀ (rd : Reg8) (s : State), Adjusts daaTable rd s (exec (.daaRd rd) s)) ∧
  (∀ (rd : Reg8) (s : State), Adjusts dasTable rd s (exec (.dasRd rd) s))

/-- MULXU and MULXS: exact product, flags, frame (R261 to R264). -/
def Obligations.MultiplySetsExactProduct : Prop :=
  (∀ (rs : Reg8) (rd : Reg16) (s : State),
    Alters 2 (.w rd) (BitVec.ofNat 16 ((getReg8 s rs).toNat * ((getReg16 s rd).setWidth 8).toNat)) s.ccr s (exec
      (.mulxuBRsRd rs rd) s)) ∧
  (∀ (rs : Reg16) (erd : RegNum) (s : State),
    Alters 2 (.l erd) (BitVec.ofNat 32 ((getReg16 s rs).toNat * ((getER s erd).setWidth 16).toNat)) s.ccr s (exec
      (.mulxuWRsERd rs erd) s)) ∧
  (∀ (rs : Reg8) (rd : Reg16) (s : State),
    let v := BitVec.ofInt 16 ((getReg8 s rs).toInt * ((getReg16 s rd).setWidth 8).toInt)
    Alters 4 (.w rd) v { s.ccr with n := decide (v.toInt < 0), z := decide (v.toNat = 0) } s (exec (.mulxsBRsRd rs
      rd) s)) ∧
  (∀ (rs : Reg16) (erd : RegNum) (s : State),
    let v := BitVec.ofInt 32 ((getReg16 s rs).toInt * ((getER s erd).setWidth 16).toInt)
    Alters 4 (.l erd) v { s.ccr with n := decide (v.toInt < 0), z := decide (v.toNat = 0) } s (exec (.mulxsWRsERd rs
      erd) s))

/-- DIVXU and DIVXS: quotient and remainder where they fit, a free value where not, flags, frame (R265 to R269; D17,
log 9). -/
def Obligations.DivideSetsRemainderAndQuotient : Prop :=
  (∀ (rs : Reg8) (rd : Reg16) (s : State),
    Divides 2 (.w rd) ((getReg8 s rs).toNat ≠ 0 ∧ (getReg16 s rd).toNat / (getReg8 s rs).toNat < 2 ^ 8)
    (BitVec.ofNat 8 ((getReg16 s rd).toNat % (getReg8 s rs).toNat) ++ BitVec.ofNat 8 ((getReg16 s rd).toNat /
      (getReg8 s rs).toNat))
    { s.ccr with n := decide ((getReg8 s rs).toInt < 0), z := decide ((getReg8 s rs).toNat = 0) } s (exec
      (.divxuBRsRd rs rd) s)) ∧
  (∀ (rs : Reg16) (erd : RegNum) (s : State),
    Divides 2 (.l erd) ((getReg16 s rs).toNat ≠ 0 ∧ (getER s erd).toNat / (getReg16 s rs).toNat < 2 ^ 16)
    (BitVec.ofNat 16 ((getER s erd).toNat % (getReg16 s rs).toNat) ++ BitVec.ofNat 16 ((getER s erd).toNat /
      (getReg16 s rs).toNat))
    { s.ccr with n := decide ((getReg16 s rs).toInt < 0), z := decide ((getReg16 s rs).toNat = 0) } s (exec
      (.divxuWRsERd rs erd) s)) ∧
  (∀ (rs : Reg8) (rd : Reg16) (s : State),
    Divides 4 (.w rd)
    ((getReg8 s rs).toInt ≠ 0 ∧ -2 ^ 7 ≤ (getReg16 s rd).toInt.tdiv (getReg8 s rs).toInt ∧ (getReg16 s rd).toInt.tdiv
      (getReg8 s rs).toInt < 2 ^ 7)
    (BitVec.ofInt 8 ((getReg16 s rd).toInt.tmod (getReg8 s rs).toInt) ++ BitVec.ofInt 8 ((getReg16 s rd).toInt.tdiv
      (getReg8 s rs).toInt))
    { s.ccr with n := decide ((getReg16 s rd).toInt < 0) ^^ decide ((getReg8 s rs).toInt < 0), z := decide ((getReg8
      s rs).toNat = 0) } s (exec (.divxsBRsRd rs rd) s)) ∧
  (∀ (rs : Reg16) (erd : RegNum) (s : State),
    Divides 4 (.l erd)
    ((getReg16 s rs).toInt ≠ 0 ∧ -2 ^ 15 ≤ (getER s erd).toInt.tdiv (getReg16 s rs).toInt ∧ (getER s erd).toInt.tdiv
      (getReg16 s rs).toInt < 2 ^ 15)
    (BitVec.ofInt 16 ((getER s erd).toInt.tmod (getReg16 s rs).toInt) ++ BitVec.ofInt 16 ((getER s erd).toInt.tdiv
      (getReg16 s rs).toInt))
    { s.ccr with n := decide ((getER s erd).toInt < 0) ^^ decide ((getReg16 s rs).toInt < 0), z := decide ((getReg16
      s rs).toNat = 0) } s (exec (.divxsWRsERd rs erd) s))

/-- EXTU and EXTS: zero- and sign-extension of the lower half, flags, frame (R270 to R273). -/
def Obligations.ExtendSetsUpperHalf : Prop :=
  (∀ (rd : Reg16) (s : State),
    Computes 2 (.w rd) (BitVec.ofNat 16 ((getReg16 s rd).toNat % 2 ^ 8)) s (exec (.extuWRd rd) s)) ∧
  (∀ (erd : RegNum) (s : State),
    Computes 2 (.l erd) (BitVec.ofNat 32 ((getER s erd).toNat % 2 ^ 16)) s (exec (.extuLERd erd) s)) ∧
  (∀ (rd : Reg16) (s : State),
    Computes 2 (.w rd) (BitVec.ofInt 16 ((getReg16 s rd).setWidth 8).toInt) s (exec (.extsWRd rd) s)) ∧
  (∀ (erd : RegNum) (s : State),
    Computes 2 (.l erd) (BitVec.ofInt 32 ((getER s erd).setWidth 16).toInt) s (exec (.extsLERd erd) s))

/-- TAS: flags of the byte as read, then bit 7 set, frame (R278; the environment between its two bus cycles: R81, R83,
log 22). -/
def Obligations.TasSetsTopBitOfTestedByte : Prop :=
  ∀ (erd : RegNum) (s : State), tasRegister erd = true →
    Completes (exec (.tasAtERd erd) s) fun t =>
      let k := byteKey s.cfg (getER s erd)
      let v := readByte (beforeCycle s).mem k
      readByte t.mem k = v ||| 0x80#8 ∧ SameMemoryOutside [k] (beforeCycles 2 s) t ∧ SameRegisters s t ∧
        t.ccr = resultFlags v s.ccr ∧ Advanced 4 s t ∧ Untouched (write8 (beforeCycle s) (getER s erd) (v ||| 0x80#8)) t

/-- MAC: product, accumulator, multiplier flags, address registers, frame (R279, R280, R40; D31 and D32, log 24; the
environment between the two reads: R81, log 22). -/
def Obligations.MacAccumulatesProduct : Prop :=
  ∀ (ern erm : RegNum) (s : State), s.cfg.cpu = .h8s2600 →
    Completes (exec (.macERnIncERmInc ern erm) s) fun t =>
      let y := if erm = ern then getER s ern + 2 else getER s erm
      let p := (read16 s (getER s ern)).toInt * (read16 (beforeCycle s) y).toInt
      (if s.env.macs then AccumulatesSaturating p s t else AccumulatesWrapping p s t) ∧
        getER t ern = (if erm = ern then getER s ern + 4 else getER s ern + 2) ∧
        (erm ≠ ern → getER t erm = getER s erm + 2) ∧
        (∀ m, m ≠ ern → m ≠ erm → getER t m = getER s m) ∧
        t.ccr = s.ccr ∧ Advanced 4 s t ∧ SameMemory (beforeCycles 2 s) t ∧
        Untouched { beforeCycles 2 s with
          mach := t.mach, macl := t.macl, nMult := t.nMult, zMult := t.zMult, vMult := t.vMult } t

/-- CLRMAC, LDMAC and STMAC: MACH, MACL, multiplier flags (N-MULT and Z-MULT retained), CCR, frame (R281 to R285;
N-MULT and Z-MULT kept by CLRMAC and LDMAC: C6, a refinement of "undetermined", DEDUCED, log 34). -/
def Obligations.MacRegisterTransfers : Prop :=
  ∀ (n : RegNum) (s : State), s.cfg.cpu = .h8s2600 →
    Completes (exec .clrmac s) (SetsCcr 2 s.ccr { s with mach := 0, macl := 0, vMult := false }) ∧
    Completes (exec (.ldmacERsMACH n) s)
      (SetsCcr 2 s.ccr { s with mach := BitVec.ofNat 10 (getER s n).toNat, vMult := false }) ∧
    Completes (exec (.ldmacERsMACL n) s) (SetsCcr 2 s.ccr { s with macl := getER s n, vMult := false }) ∧
    Completes (exec (.stmacMACHERd n) s)
      (SetsRegister 2 (.l n) (BitVec.ofInt 32 s.mach.toInt) { s.ccr with n := s.nMult, z := s.zMult, v := s.vMult } s) ∧
    Completes (exec (.stmacMACLERd n) s)
      (SetsRegister 2 (.l n) s.macl { s.ccr with n := s.nMult, z := s.zMult, v := s.vMult } s)

/-- Encodings that do not exist are refused: the MAC group on the H8S/2000, unlisted registers of LDM, STM and TAS
(R114, R115, R189, R190, R278; D2, log 12; D24 and D27, log 11). -/
def Obligations.AbsentEncodingsRefused : Prop :=
  ∀ (n m : RegNum) (s : State),
    (s.cfg.cpu = .h8s2000 →
      ∀ i ∈ [Instr.macERnIncERmInc n m, .clrmac, .ldmacERsMACH n, .ldmacERsMACL n, .stmacMACHERd n, .stmacMACLERd n],
        exec i s = .refused .macGroupOnH8S2000) ∧
    (ldmListed 2 n = false → exec (.ldmL2 n) s = .refused .undefinedEncoding) ∧
    (ldmListed 3 n = false → exec (.ldmL3 n) s = .refused .undefinedEncoding) ∧
    (ldmListed 4 n = false → exec (.ldmL4 n) s = .refused .undefinedEncoding) ∧
    (stmListed 2 n = false → exec (.stmL2 n) s = .refused .undefinedEncoding) ∧
    (stmListed 3 n = false → exec (.stmL3 n) s = .refused .undefinedEncoding) ∧
    (stmListed 4 n = false → exec (.stmL4 n) s = .refused .undefinedEncoding) ∧
    (tasRegister n = false → exec (.tasAtERd n) s = .refused .undefinedEncoding)

/-- AND, OR, XOR and NOT: result, N, Z, V = 0, frame (R300, for R301 to R321). -/
def Obligations.LogicSetsResultAndFlags : Prop :=
  (∀ (imm : BitVec 8) (rd : Reg8) (s : State),
    Computes 2 (.b rd) ((getReg8 s rd) &&& imm) s (exec (.andBImm8Rd imm rd) s)) ∧
  (∀ (rs : Reg8) (rd : Reg8) (s : State),
    Computes 2 (.b rd) ((getReg8 s rd) &&& (getReg8 s rs)) s (exec (.andBRsRd rs rd) s)) ∧
  (∀ (imm : BitVec 16) (rd : Reg16) (s : State),
    Computes 4 (.w rd) ((getReg16 s rd) &&& imm) s (exec (.andWImm16Rd imm rd) s)) ∧
  (∀ (rs : Reg16) (rd : Reg16) (s : State),
    Computes 2 (.w rd) ((getReg16 s rd) &&& (getReg16 s rs)) s (exec (.andWRsRd rs rd) s)) ∧
  (∀ (imm : BitVec 32) (erd : RegNum) (s : State),
    Computes 6 (.l erd) ((getER s erd) &&& imm) s (exec (.andLImm32ERd imm erd) s)) ∧
  (∀ (ers : RegNum) (erd : RegNum) (s : State),
    Computes 4 (.l erd) ((getER s erd) &&& (getER s ers)) s (exec (.andLERsERd ers erd) s)) ∧
  (∀ (imm : BitVec 8) (rd : Reg8) (s : State),
    Computes 2 (.b rd) ((getReg8 s rd) ||| imm) s (exec (.orBImm8Rd imm rd) s)) ∧
  (∀ (rs : Reg8) (rd : Reg8) (s : State),
    Computes 2 (.b rd) ((getReg8 s rd) ||| (getReg8 s rs)) s (exec (.orBRsRd rs rd) s)) ∧
  (∀ (imm : BitVec 16) (rd : Reg16) (s : State),
    Computes 4 (.w rd) ((getReg16 s rd) ||| imm) s (exec (.orWImm16Rd imm rd) s)) ∧
  (∀ (rs : Reg16) (rd : Reg16) (s : State),
    Computes 2 (.w rd) ((getReg16 s rd) ||| (getReg16 s rs)) s (exec (.orWRsRd rs rd) s)) ∧
  (∀ (imm : BitVec 32) (erd : RegNum) (s : State),
    Computes 6 (.l erd) ((getER s erd) ||| imm) s (exec (.orLImm32ERd imm erd) s)) ∧
  (∀ (ers : RegNum) (erd : RegNum) (s : State),
    Computes 4 (.l erd) ((getER s erd) ||| (getER s ers)) s (exec (.orLERsERd ers erd) s)) ∧
  (∀ (imm : BitVec 8) (rd : Reg8) (s : State),
    Computes 2 (.b rd) ((getReg8 s rd) ^^^ imm) s (exec (.xorBImm8Rd imm rd) s)) ∧
  (∀ (rs : Reg8) (rd : Reg8) (s : State),
    Computes 2 (.b rd) ((getReg8 s rd) ^^^ (getReg8 s rs)) s (exec (.xorBRsRd rs rd) s)) ∧
  (∀ (imm : BitVec 16) (rd : Reg16) (s : State),
    Computes 4 (.w rd) ((getReg16 s rd) ^^^ imm) s (exec (.xorWImm16Rd imm rd) s)) ∧
  (∀ (rs : Reg16) (rd : Reg16) (s : State),
    Computes 2 (.w rd) ((getReg16 s rd) ^^^ (getReg16 s rs)) s (exec (.xorWRsRd rs rd) s)) ∧
  (∀ (imm : BitVec 32) (erd : RegNum) (s : State),
    Computes 6 (.l erd) ((getER s erd) ^^^ imm) s (exec (.xorLImm32ERd imm erd) s)) ∧
  (∀ (ers : RegNum) (erd : RegNum) (s : State),
    Computes 4 (.l erd) ((getER s erd) ^^^ (getER s ers)) s (exec (.xorLERsERd ers erd) s)) ∧
  (∀ (rd : Reg8) (s : State), Computes 2 (.b rd) (~~~(getReg8 s rd)) s (exec (.notBRd rd) s)) ∧
  (∀ (rd : Reg16) (s : State), Computes 2 (.w rd) (~~~(getReg16 s rd)) s (exec (.notWRd rd) s)) ∧
  (∀ (erd : RegNum) (s : State), Computes 2 (.l erd) (~~~(getER s erd)) s (exec (.notLERd erd) s))

/-- SHAL and SHAR: result, C, SHAL's overflow, frame (R600, for R602 to R613, and R601). -/
def Obligations.ArithmeticShiftsSetCarryAndOverflow : Prop :=
  (∀ (rd : Reg8) (s : State),
    Shifts (.b rd) ((getReg8 s rd) <<< 1) ((getReg8 s rd).getLsbD 7)
    (decide ((getReg8 s rd).toInt * 2 ^ 1 < -2 ^ 7 ∨ 2 ^ 7 ≤ (getReg8 s rd).toInt * 2 ^ 1)) s (exec (.shalBRd rd) s)) ∧
  (∀ (rd : Reg8) (s : State),
    Shifts (.b rd) ((getReg8 s rd) <<< 2) ((getReg8 s rd).getLsbD 6)
    (decide ((getReg8 s rd).toInt * 2 ^ 2 < -2 ^ 7 ∨ 2 ^ 7 ≤ (getReg8 s rd).toInt * 2 ^ 2)) s (exec (.shalBBy2Rd rd)
      s)) ∧
  (∀ (rd : Reg16) (s : State),
    Shifts (.w rd) ((getReg16 s rd) <<< 1) ((getReg16 s rd).getLsbD 15)
    (decide ((getReg16 s rd).toInt * 2 ^ 1 < -2 ^ 15 ∨ 2 ^ 15 ≤ (getReg16 s rd).toInt * 2 ^ 1)) s (exec (.shalWRd rd)
      s)) ∧
  (∀ (rd : Reg16) (s : State),
    Shifts (.w rd) ((getReg16 s rd) <<< 2) ((getReg16 s rd).getLsbD 14)
    (decide ((getReg16 s rd).toInt * 2 ^ 2 < -2 ^ 15 ∨ 2 ^ 15 ≤ (getReg16 s rd).toInt * 2 ^ 2)) s (exec (.shalWBy2Rd
      rd) s)) ∧
  (∀ (erd : RegNum) (s : State),
    Shifts (.l erd) ((getER s erd) <<< 1) ((getER s erd).getLsbD 31)
    (decide ((getER s erd).toInt * 2 ^ 1 < -2 ^ 31 ∨ 2 ^ 31 ≤ (getER s erd).toInt * 2 ^ 1)) s (exec (.shalLERd erd)
      s)) ∧
  (∀ (erd : RegNum) (s : State),
    Shifts (.l erd) ((getER s erd) <<< 2) ((getER s erd).getLsbD 30)
    (decide ((getER s erd).toInt * 2 ^ 2 < -2 ^ 31 ∨ 2 ^ 31 ≤ (getER s erd).toInt * 2 ^ 2)) s (exec (.shalLBy2ERd
      erd) s)) ∧
  (∀ (rd : Reg8) (s : State),
    Shifts (.b rd) ((getReg8 s rd).sshiftRight 1) ((getReg8 s rd).getLsbD 0) false s (exec (.sharBRd rd) s)) ∧
  (∀ (rd : Reg8) (s : State),
    Shifts (.b rd) ((getReg8 s rd).sshiftRight 2) ((getReg8 s rd).getLsbD 1) false s (exec (.sharBBy2Rd rd) s)) ∧
  (∀ (rd : Reg16) (s : State),
    Shifts (.w rd) ((getReg16 s rd).sshiftRight 1) ((getReg16 s rd).getLsbD 0) false s (exec (.sharWRd rd) s)) ∧
  (∀ (rd : Reg16) (s : State),
    Shifts (.w rd) ((getReg16 s rd).sshiftRight 2) ((getReg16 s rd).getLsbD 1) false s (exec (.sharWBy2Rd rd) s)) ∧
  (∀ (erd : RegNum) (s : State),
    Shifts (.l erd) ((getER s erd).sshiftRight 1) ((getER s erd).getLsbD 0) false s (exec (.sharLERd erd) s)) ∧
  (∀ (erd : RegNum) (s : State),
    Shifts (.l erd) ((getER s erd).sshiftRight 2) ((getER s erd).getLsbD 1) false s (exec (.sharLBy2ERd erd) s))

/-- SHLL and SHLR: result, C, V = 0, frame (R600, for R614 to R625). -/
def Obligations.LogicalShiftsFillWithZero : Prop :=
  (∀ (rd : Reg8) (s : State),
    Shifts (.b rd) ((getReg8 s rd) <<< 1) ((getReg8 s rd).getLsbD 7) false s (exec (.shllBRd rd) s)) ∧
  (∀ (rd : Reg8) (s : State),
    Shifts (.b rd) ((getReg8 s rd) <<< 2) ((getReg8 s rd).getLsbD 6) false s (exec (.shllBBy2Rd rd) s)) ∧
  (∀ (rd : Reg16) (s : State),
    Shifts (.w rd) ((getReg16 s rd) <<< 1) ((getReg16 s rd).getLsbD 15) false s (exec (.shllWRd rd) s)) ∧
  (∀ (rd : Reg16) (s : State),
    Shifts (.w rd) ((getReg16 s rd) <<< 2) ((getReg16 s rd).getLsbD 14) false s (exec (.shllWBy2Rd rd) s)) ∧
  (∀ (erd : RegNum) (s : State),
    Shifts (.l erd) ((getER s erd) <<< 1) ((getER s erd).getLsbD 31) false s (exec (.shllLERd erd) s)) ∧
  (∀ (erd : RegNum) (s : State),
    Shifts (.l erd) ((getER s erd) <<< 2) ((getER s erd).getLsbD 30) false s (exec (.shllLBy2ERd erd) s)) ∧
  (∀ (rd : Reg8) (s : State),
    Shifts (.b rd) ((getReg8 s rd) >>> 1) ((getReg8 s rd).getLsbD 0) false s (exec (.shlrBRd rd) s)) ∧
  (∀ (rd : Reg8) (s : State),
    Shifts (.b rd) ((getReg8 s rd) >>> 2) ((getReg8 s rd).getLsbD 1) false s (exec (.shlrBBy2Rd rd) s)) ∧
  (∀ (rd : Reg16) (s : State),
    Shifts (.w rd) ((getReg16 s rd) >>> 1) ((getReg16 s rd).getLsbD 0) false s (exec (.shlrWRd rd) s)) ∧
  (∀ (rd : Reg16) (s : State),
    Shifts (.w rd) ((getReg16 s rd) >>> 2) ((getReg16 s rd).getLsbD 1) false s (exec (.shlrWBy2Rd rd) s)) ∧
  (∀ (erd : RegNum) (s : State),
    Shifts (.l erd) ((getER s erd) >>> 1) ((getER s erd).getLsbD 0) false s (exec (.shlrLERd erd) s)) ∧
  (∀ (erd : RegNum) (s : State),
    Shifts (.l erd) ((getER s erd) >>> 2) ((getER s erd).getLsbD 1) false s (exec (.shlrLBy2ERd erd) s))

/-- ROTL and ROTR: result, C, V = 0, frame (R600, for R626 to R637). -/
def Obligations.RotatesKeepAllBits : Prop :=
  (∀ (rd : Reg8) (s : State),
    Shifts (.b rd) ((getReg8 s rd).rotateLeft 1) ((getReg8 s rd).getLsbD 7) false s (exec (.rotlBRd rd) s)) ∧
  (∀ (rd : Reg8) (s : State),
    Shifts (.b rd) ((getReg8 s rd).rotateLeft 2) ((getReg8 s rd).getLsbD 6) false s (exec (.rotlBBy2Rd rd) s)) ∧
  (∀ (rd : Reg16) (s : State),
    Shifts (.w rd) ((getReg16 s rd).rotateLeft 1) ((getReg16 s rd).getLsbD 15) false s (exec (.rotlWRd rd) s)) ∧
  (∀ (rd : Reg16) (s : State),
    Shifts (.w rd) ((getReg16 s rd).rotateLeft 2) ((getReg16 s rd).getLsbD 14) false s (exec (.rotlWBy2Rd rd) s)) ∧
  (∀ (erd : RegNum) (s : State),
    Shifts (.l erd) ((getER s erd).rotateLeft 1) ((getER s erd).getLsbD 31) false s (exec (.rotlLERd erd) s)) ∧
  (∀ (erd : RegNum) (s : State),
    Shifts (.l erd) ((getER s erd).rotateLeft 2) ((getER s erd).getLsbD 30) false s (exec (.rotlLBy2ERd erd) s)) ∧
  (∀ (rd : Reg8) (s : State),
    Shifts (.b rd) ((getReg8 s rd).rotateRight 1) ((getReg8 s rd).getLsbD 0) false s (exec (.rotrBRd rd) s)) ∧
  (∀ (rd : Reg8) (s : State),
    Shifts (.b rd) ((getReg8 s rd).rotateRight 2) ((getReg8 s rd).getLsbD 1) false s (exec (.rotrBBy2Rd rd) s)) ∧
  (∀ (rd : Reg16) (s : State),
    Shifts (.w rd) ((getReg16 s rd).rotateRight 1) ((getReg16 s rd).getLsbD 0) false s (exec (.rotrWRd rd) s)) ∧
  (∀ (rd : Reg16) (s : State),
    Shifts (.w rd) ((getReg16 s rd).rotateRight 2) ((getReg16 s rd).getLsbD 1) false s (exec (.rotrWBy2Rd rd) s)) ∧
  (∀ (erd : RegNum) (s : State),
    Shifts (.l erd) ((getER s erd).rotateRight 1) ((getER s erd).getLsbD 0) false s (exec (.rotrLERd erd) s)) ∧
  (∀ (erd : RegNum) (s : State),
    Shifts (.l erd) ((getER s erd).rotateRight 2) ((getER s erd).getLsbD 1) false s (exec (.rotrLBy2ERd erd) s))

/-- ROTXL and ROTXR: a rotation through the carry, frame (R600, for R638 to R649). -/
def Obligations.ExtendedRotatesGoThroughCarry : Prop :=
  (∀ (rd : Reg8) (s : State),
    let q := (BitVec.ofBool s.ccr.c ++ (getReg8 s rd)).rotateLeft 1
    Shifts (.b rd) (q.setWidth 8) (q.getLsbD 8) false s (exec (.rotxlBRd rd) s)) ∧
  (∀ (rd : Reg8) (s : State),
    let q := (BitVec.ofBool s.ccr.c ++ (getReg8 s rd)).rotateLeft 2
    Shifts (.b rd) (q.setWidth 8) (q.getLsbD 8) false s (exec (.rotxlBBy2Rd rd) s)) ∧
  (∀ (rd : Reg16) (s : State),
    let q := (BitVec.ofBool s.ccr.c ++ (getReg16 s rd)).rotateLeft 1
    Shifts (.w rd) (q.setWidth 16) (q.getLsbD 16) false s (exec (.rotxlWRd rd) s)) ∧
  (∀ (rd : Reg16) (s : State),
    let q := (BitVec.ofBool s.ccr.c ++ (getReg16 s rd)).rotateLeft 2
    Shifts (.w rd) (q.setWidth 16) (q.getLsbD 16) false s (exec (.rotxlWBy2Rd rd) s)) ∧
  (∀ (erd : RegNum) (s : State),
    let q := (BitVec.ofBool s.ccr.c ++ (getER s erd)).rotateLeft 1
    Shifts (.l erd) (q.setWidth 32) (q.getLsbD 32) false s (exec (.rotxlLERd erd) s)) ∧
  (∀ (erd : RegNum) (s : State),
    let q := (BitVec.ofBool s.ccr.c ++ (getER s erd)).rotateLeft 2
    Shifts (.l erd) (q.setWidth 32) (q.getLsbD 32) false s (exec (.rotxlLBy2ERd erd) s)) ∧
  (∀ (rd : Reg8) (s : State),
    let q := (BitVec.ofBool s.ccr.c ++ (getReg8 s rd)).rotateRight 1
    Shifts (.b rd) (q.setWidth 8) (q.getLsbD 8) false s (exec (.rotxrBRd rd) s)) ∧
  (∀ (rd : Reg8) (s : State),
    let q := (BitVec.ofBool s.ccr.c ++ (getReg8 s rd)).rotateRight 2
    Shifts (.b rd) (q.setWidth 8) (q.getLsbD 8) false s (exec (.rotxrBBy2Rd rd) s)) ∧
  (∀ (rd : Reg16) (s : State),
    let q := (BitVec.ofBool s.ccr.c ++ (getReg16 s rd)).rotateRight 1
    Shifts (.w rd) (q.setWidth 16) (q.getLsbD 16) false s (exec (.rotxrWRd rd) s)) ∧
  (∀ (rd : Reg16) (s : State),
    let q := (BitVec.ofBool s.ccr.c ++ (getReg16 s rd)).rotateRight 2
    Shifts (.w rd) (q.setWidth 16) (q.getLsbD 16) false s (exec (.rotxrWBy2Rd rd) s)) ∧
  (∀ (erd : RegNum) (s : State),
    let q := (BitVec.ofBool s.ccr.c ++ (getER s erd)).rotateRight 1
    Shifts (.l erd) (q.setWidth 32) (q.getLsbD 32) false s (exec (.rotxrLERd erd) s)) ∧
  (∀ (erd : RegNum) (s : State),
    let q := (BitVec.ofBool s.ccr.c ++ (getER s erd)).rotateRight 2
    Shifts (.l erd) (q.setWidth 32) (q.getLsbD 32) false s (exec (.rotxrLBy2ERd erd) s))

/-- BAND, BIAND, BOR, BIOR, BXOR, BIXOR, BLD, BILD: C from the bit, frame (R700, R702, R705, for their five forms
each; the environment before the read: R81, log 22). -/
def Obligations.BitLogicChangesCarryOnly : Prop :=
  (∀ (n : BitNum) (rd : Reg8) (s : State),
    TestsBit 2 (.reg rd) n (fun b => { s.ccr with c := s.ccr.c && b }) s (exec (.bandImm3Rd n rd) s)) ∧
  (∀ (n : BitNum) (erd : RegNum) (s : State),
    TestsBit 4 (.mem (.ind erd)) n (fun b => { s.ccr with c := s.ccr.c && b }) s (exec (.bandImm3AtERd n erd) s)) ∧
  (∀ (n : BitNum) (abs : BitVec 8) (s : State),
    TestsBit 4 (.mem (.abs8 abs)) n (fun b => { s.ccr with c := s.ccr.c && b }) s (exec (.bandImm3Aa8 n abs) s)) ∧
  (∀ (n : BitNum) (abs : BitVec 16) (s : State),
    TestsBit 6 (.mem (.abs16 abs)) n (fun b => { s.ccr with c := s.ccr.c && b }) s (exec (.bandImm3Aa16 n abs) s)) ∧
  (∀ (n : BitNum) (abs : BitVec 32) (s : State),
    TestsBit 8 (.mem (.abs32 abs)) n (fun b => { s.ccr with c := s.ccr.c && b }) s (exec (.bandImm3Aa32 n abs) s)) ∧
  (∀ (n : BitNum) (rd : Reg8) (s : State),
    TestsBit 2 (.reg rd) n (fun b => { s.ccr with c := s.ccr.c && !b }) s (exec (.biandImm3Rd n rd) s)) ∧
  (∀ (n : BitNum) (erd : RegNum) (s : State),
    TestsBit 4 (.mem (.ind erd)) n (fun b => { s.ccr with c := s.ccr.c && !b }) s (exec (.biandImm3AtERd n erd) s)) ∧
  (∀ (n : BitNum) (abs : BitVec 8) (s : State),
    TestsBit 4 (.mem (.abs8 abs)) n (fun b => { s.ccr with c := s.ccr.c && !b }) s (exec (.biandImm3Aa8 n abs) s)) ∧
  (∀ (n : BitNum) (abs : BitVec 16) (s : State),
    TestsBit 6 (.mem (.abs16 abs)) n (fun b => { s.ccr with c := s.ccr.c && !b }) s (exec (.biandImm3Aa16 n abs) s)) ∧
  (∀ (n : BitNum) (abs : BitVec 32) (s : State),
    TestsBit 8 (.mem (.abs32 abs)) n (fun b => { s.ccr with c := s.ccr.c && !b }) s (exec (.biandImm3Aa32 n abs) s)) ∧
  (∀ (n : BitNum) (rd : Reg8) (s : State),
    TestsBit 2 (.reg rd) n (fun b => { s.ccr with c := !b }) s (exec (.bildImm3Rd n rd) s)) ∧
  (∀ (n : BitNum) (erd : RegNum) (s : State),
    TestsBit 4 (.mem (.ind erd)) n (fun b => { s.ccr with c := !b }) s (exec (.bildImm3AtERd n erd) s)) ∧
  (∀ (n : BitNum) (abs : BitVec 8) (s : State),
    TestsBit 4 (.mem (.abs8 abs)) n (fun b => { s.ccr with c := !b }) s (exec (.bildImm3Aa8 n abs) s)) ∧
  (∀ (n : BitNum) (abs : BitVec 16) (s : State),
    TestsBit 6 (.mem (.abs16 abs)) n (fun b => { s.ccr with c := !b }) s (exec (.bildImm3Aa16 n abs) s)) ∧
  (∀ (n : BitNum) (abs : BitVec 32) (s : State),
    TestsBit 8 (.mem (.abs32 abs)) n (fun b => { s.ccr with c := !b }) s (exec (.bildImm3Aa32 n abs) s)) ∧
  (∀ (n : BitNum) (rd : Reg8) (s : State),
    TestsBit 2 (.reg rd) n (fun b => { s.ccr with c := s.ccr.c || !b }) s (exec (.biorImm3Rd n rd) s)) ∧
  (∀ (n : BitNum) (erd : RegNum) (s : State),
    TestsBit 4 (.mem (.ind erd)) n (fun b => { s.ccr with c := s.ccr.c || !b }) s (exec (.biorImm3AtERd n erd) s)) ∧
  (∀ (n : BitNum) (abs : BitVec 8) (s : State),
    TestsBit 4 (.mem (.abs8 abs)) n (fun b => { s.ccr with c := s.ccr.c || !b }) s (exec (.biorImm3Aa8 n abs) s)) ∧
  (∀ (n : BitNum) (abs : BitVec 16) (s : State),
    TestsBit 6 (.mem (.abs16 abs)) n (fun b => { s.ccr with c := s.ccr.c || !b }) s (exec (.biorImm3Aa16 n abs) s)) ∧
  (∀ (n : BitNum) (abs : BitVec 32) (s : State),
    TestsBit 8 (.mem (.abs32 abs)) n (fun b => { s.ccr with c := s.ccr.c || !b }) s (exec (.biorImm3Aa32 n abs) s)) ∧
  (∀ (n : BitNum) (rd : Reg8) (s : State),
    TestsBit 2 (.reg rd) n (fun b => { s.ccr with c := s.ccr.c ^^ !b }) s (exec (.bixorImm3Rd n rd) s)) ∧
  (∀ (n : BitNum) (erd : RegNum) (s : State),
    TestsBit 4 (.mem (.ind erd)) n (fun b => { s.ccr with c := s.ccr.c ^^ !b }) s (exec (.bixorImm3AtERd n erd) s)) ∧
  (∀ (n : BitNum) (abs : BitVec 8) (s : State),
    TestsBit 4 (.mem (.abs8 abs)) n (fun b => { s.ccr with c := s.ccr.c ^^ !b }) s (exec (.bixorImm3Aa8 n abs) s)) ∧
  (∀ (n : BitNum) (abs : BitVec 16) (s : State),
    TestsBit 6 (.mem (.abs16 abs)) n (fun b => { s.ccr with c := s.ccr.c ^^ !b }) s (exec (.bixorImm3Aa16 n abs) s)) ∧
  (∀ (n : BitNum) (abs : BitVec 32) (s : State),
    TestsBit 8 (.mem (.abs32 abs)) n (fun b => { s.ccr with c := s.ccr.c ^^ !b }) s (exec (.bixorImm3Aa32 n abs) s)) ∧
  (∀ (n : BitNum) (rd : Reg8) (s : State),
    TestsBit 2 (.reg rd) n (fun b => { s.ccr with c := b }) s (exec (.bldImm3Rd n rd) s)) ∧
  (∀ (n : BitNum) (erd : RegNum) (s : State),
    TestsBit 4 (.mem (.ind erd)) n (fun b => { s.ccr with c := b }) s (exec (.bldImm3AtERd n erd) s)) ∧
  (∀ (n : BitNum) (abs : BitVec 8) (s : State),
    TestsBit 4 (.mem (.abs8 abs)) n (fun b => { s.ccr with c := b }) s (exec (.bldImm3Aa8 n abs) s)) ∧
  (∀ (n : BitNum) (abs : BitVec 16) (s : State),
    TestsBit 6 (.mem (.abs16 abs)) n (fun b => { s.ccr with c := b }) s (exec (.bldImm3Aa16 n abs) s)) ∧
  (∀ (n : BitNum) (abs : BitVec 32) (s : State),
    TestsBit 8 (.mem (.abs32 abs)) n (fun b => { s.ccr with c := b }) s (exec (.bldImm3Aa32 n abs) s)) ∧
  (∀ (n : BitNum) (rd : Reg8) (s : State),
    TestsBit 2 (.reg rd) n (fun b => { s.ccr with c := s.ccr.c || b }) s (exec (.borImm3Rd n rd) s)) ∧
  (∀ (n : BitNum) (erd : RegNum) (s : State),
    TestsBit 4 (.mem (.ind erd)) n (fun b => { s.ccr with c := s.ccr.c || b }) s (exec (.borImm3AtERd n erd) s)) ∧
  (∀ (n : BitNum) (abs : BitVec 8) (s : State),
    TestsBit 4 (.mem (.abs8 abs)) n (fun b => { s.ccr with c := s.ccr.c || b }) s (exec (.borImm3Aa8 n abs) s)) ∧
  (∀ (n : BitNum) (abs : BitVec 16) (s : State),
    TestsBit 6 (.mem (.abs16 abs)) n (fun b => { s.ccr with c := s.ccr.c || b }) s (exec (.borImm3Aa16 n abs) s)) ∧
  (∀ (n : BitNum) (abs : BitVec 32) (s : State),
    TestsBit 8 (.mem (.abs32 abs)) n (fun b => { s.ccr with c := s.ccr.c || b }) s (exec (.borImm3Aa32 n abs) s)) ∧
  (∀ (n : BitNum) (rd : Reg8) (s : State),
    TestsBit 2 (.reg rd) n (fun b => { s.ccr with c := s.ccr.c ^^ b }) s (exec (.bxorImm3Rd n rd) s)) ∧
  (∀ (n : BitNum) (erd : RegNum) (s : State),
    TestsBit 4 (.mem (.ind erd)) n (fun b => { s.ccr with c := s.ccr.c ^^ b }) s (exec (.bxorImm3AtERd n erd) s)) ∧
  (∀ (n : BitNum) (abs : BitVec 8) (s : State),
    TestsBit 4 (.mem (.abs8 abs)) n (fun b => { s.ccr with c := s.ccr.c ^^ b }) s (exec (.bxorImm3Aa8 n abs) s)) ∧
  (∀ (n : BitNum) (abs : BitVec 16) (s : State),
    TestsBit 6 (.mem (.abs16 abs)) n (fun b => { s.ccr with c := s.ccr.c ^^ b }) s (exec (.bxorImm3Aa16 n abs) s)) ∧
  (∀ (n : BitNum) (abs : BitVec 32) (s : State),
    TestsBit 8 (.mem (.abs32 abs)) n (fun b => { s.ccr with c := s.ccr.c ^^ b }) s (exec (.bxorImm3Aa32 n abs) s))

/-- BTST: Z from the bit, frame (R701, R702, R705; the environment before the read: R81, log 22). -/
def Obligations.BtstSetsZeroFlagOnly : Prop :=
  (∀ (n : BitNum) (rd : Reg8) (s : State),
    TestsBit 2 (.reg rd) n (fun b => { s.ccr with z := !b }) s (exec (.btstImm3Rd n rd) s)) ∧
  (∀ (n : BitNum) (erd : RegNum) (s : State),
    TestsBit 4 (.mem (.ind erd)) n (fun b => { s.ccr with z := !b }) s (exec (.btstImm3AtERd n erd) s)) ∧
  (∀ (n : BitNum) (abs : BitVec 8) (s : State),
    TestsBit 4 (.mem (.abs8 abs)) n (fun b => { s.ccr with z := !b }) s (exec (.btstImm3Aa8 n abs) s)) ∧
  (∀ (n : BitNum) (abs : BitVec 16) (s : State),
    TestsBit 6 (.mem (.abs16 abs)) n (fun b => { s.ccr with z := !b }) s (exec (.btstImm3Aa16 n abs) s)) ∧
  (∀ (n : BitNum) (abs : BitVec 32) (s : State),
    TestsBit 8 (.mem (.abs32 abs)) n (fun b => { s.ccr with z := !b }) s (exec (.btstImm3Aa32 n abs) s)) ∧
  (∀ (rn : Reg8) (rd : Reg8) (s : State),
    TestsBit 2 (.reg rd) (Fin.ofNat 8 (getReg8 s rn).toNat) (fun b => { s.ccr with z := !b }) s (exec (.btstRnRd rn
      rd) s)) ∧
  (∀ (rn : Reg8) (erd : RegNum) (s : State),
    TestsBit 4 (.mem (.ind erd)) (Fin.ofNat 8 (getReg8 s rn).toNat) (fun b => { s.ccr with z := !b }) s (exec
      (.btstRnAtERd rn erd) s)) ∧
  (∀ (rn : Reg8) (abs : BitVec 8) (s : State),
    TestsBit 4 (.mem (.abs8 abs)) (Fin.ofNat 8 (getReg8 s rn).toNat) (fun b => { s.ccr with z := !b }) s (exec
      (.btstRnAa8 rn abs) s)) ∧
  (∀ (rn : Reg8) (abs : BitVec 16) (s : State),
    TestsBit 6 (.mem (.abs16 abs)) (Fin.ofNat 8 (getReg8 s rn).toNat) (fun b => { s.ccr with z := !b }) s (exec
      (.btstRnAa16 rn abs) s)) ∧
  (∀ (rn : Reg8) (abs : BitVec 32) (s : State),
    TestsBit 8 (.mem (.abs32 abs)) (Fin.ofNat 8 (getReg8 s rn).toNat) (fun b => { s.ccr with z := !b }) s (exec
      (.btstRnAa32 rn abs) s))

/-- BSET, BCLR, BNOT, BST, BIST: one bit of the byte, no flag, frame (R700 to R705; the environment between the two
bus cycles: R81, log 22). -/
def Obligations.BitWritesReplaceOneBit : Prop :=
  (∀ (n : BitNum) (rd : Reg8) (s : State), ReplacesBit 2 (.reg rd) n (fun _ => false) s (exec (.bclrImm3Rd n rd) s)) ∧
  (∀ (n : BitNum) (erd : RegNum) (s : State),
    ReplacesBit 4 (.mem (.ind erd)) n (fun _ => false) s (exec (.bclrImm3AtERd n erd) s)) ∧
  (∀ (n : BitNum) (abs : BitVec 8) (s : State),
    ReplacesBit 4 (.mem (.abs8 abs)) n (fun _ => false) s (exec (.bclrImm3Aa8 n abs) s)) ∧
  (∀ (n : BitNum) (abs : BitVec 16) (s : State),
    ReplacesBit 6 (.mem (.abs16 abs)) n (fun _ => false) s (exec (.bclrImm3Aa16 n abs) s)) ∧
  (∀ (n : BitNum) (abs : BitVec 32) (s : State),
    ReplacesBit 8 (.mem (.abs32 abs)) n (fun _ => false) s (exec (.bclrImm3Aa32 n abs) s)) ∧
  (∀ (rn : Reg8) (rd : Reg8) (s : State),
    ReplacesBit 2 (.reg rd) (Fin.ofNat 8 (getReg8 s rn).toNat) (fun _ => false) s (exec (.bclrRnRd rn rd) s)) ∧
  (∀ (rn : Reg8) (erd : RegNum) (s : State),
    ReplacesBit 4 (.mem (.ind erd)) (Fin.ofNat 8 (getReg8 s rn).toNat) (fun _ => false) s (exec (.bclrRnAtERd rn erd)
      s)) ∧
  (∀ (rn : Reg8) (abs : BitVec 8) (s : State),
    ReplacesBit 4 (.mem (.abs8 abs)) (Fin.ofNat 8 (getReg8 s rn).toNat) (fun _ => false) s (exec (.bclrRnAa8 rn abs)
      s)) ∧
  (∀ (rn : Reg8) (abs : BitVec 16) (s : State),
    ReplacesBit 6 (.mem (.abs16 abs)) (Fin.ofNat 8 (getReg8 s rn).toNat) (fun _ => false) s (exec (.bclrRnAa16 rn
      abs) s)) ∧
  (∀ (rn : Reg8) (abs : BitVec 32) (s : State),
    ReplacesBit 8 (.mem (.abs32 abs)) (Fin.ofNat 8 (getReg8 s rn).toNat) (fun _ => false) s (exec (.bclrRnAa32 rn
      abs) s)) ∧
  (∀ (n : BitNum) (rd : Reg8) (s : State),
    ReplacesBit 2 (.reg rd) n (fun _ => !s.ccr.c) s (exec (.bistImm3Rd n rd) s)) ∧
  (∀ (n : BitNum) (erd : RegNum) (s : State),
    ReplacesBit 4 (.mem (.ind erd)) n (fun _ => !s.ccr.c) s (exec (.bistImm3AtERd n erd) s)) ∧
  (∀ (n : BitNum) (abs : BitVec 8) (s : State),
    ReplacesBit 4 (.mem (.abs8 abs)) n (fun _ => !s.ccr.c) s (exec (.bistImm3Aa8 n abs) s)) ∧
  (∀ (n : BitNum) (abs : BitVec 16) (s : State),
    ReplacesBit 6 (.mem (.abs16 abs)) n (fun _ => !s.ccr.c) s (exec (.bistImm3Aa16 n abs) s)) ∧
  (∀ (n : BitNum) (abs : BitVec 32) (s : State),
    ReplacesBit 8 (.mem (.abs32 abs)) n (fun _ => !s.ccr.c) s (exec (.bistImm3Aa32 n abs) s)) ∧
  (∀ (n : BitNum) (rd : Reg8) (s : State), ReplacesBit 2 (.reg rd) n (fun b => !b) s (exec (.bnotImm3Rd n rd) s)) ∧
  (∀ (n : BitNum) (erd : RegNum) (s : State),
    ReplacesBit 4 (.mem (.ind erd)) n (fun b => !b) s (exec (.bnotImm3AtERd n erd) s)) ∧
  (∀ (n : BitNum) (abs : BitVec 8) (s : State),
    ReplacesBit 4 (.mem (.abs8 abs)) n (fun b => !b) s (exec (.bnotImm3Aa8 n abs) s)) ∧
  (∀ (n : BitNum) (abs : BitVec 16) (s : State),
    ReplacesBit 6 (.mem (.abs16 abs)) n (fun b => !b) s (exec (.bnotImm3Aa16 n abs) s)) ∧
  (∀ (n : BitNum) (abs : BitVec 32) (s : State),
    ReplacesBit 8 (.mem (.abs32 abs)) n (fun b => !b) s (exec (.bnotImm3Aa32 n abs) s)) ∧
  (∀ (rn : Reg8) (rd : Reg8) (s : State),
    ReplacesBit 2 (.reg rd) (Fin.ofNat 8 (getReg8 s rn).toNat) (fun b => !b) s (exec (.bnotRnRd rn rd) s)) ∧
  (∀ (rn : Reg8) (erd : RegNum) (s : State),
    ReplacesBit 4 (.mem (.ind erd)) (Fin.ofNat 8 (getReg8 s rn).toNat) (fun b => !b) s (exec (.bnotRnAtERd rn erd) s)) ∧
  (∀ (rn : Reg8) (abs : BitVec 8) (s : State),
    ReplacesBit 4 (.mem (.abs8 abs)) (Fin.ofNat 8 (getReg8 s rn).toNat) (fun b => !b) s (exec (.bnotRnAa8 rn abs) s)) ∧
  (∀ (rn : Reg8) (abs : BitVec 16) (s : State),
    ReplacesBit 6 (.mem (.abs16 abs)) (Fin.ofNat 8 (getReg8 s rn).toNat) (fun b => !b) s (exec (.bnotRnAa16 rn abs)
      s)) ∧
  (∀ (rn : Reg8) (abs : BitVec 32) (s : State),
    ReplacesBit 8 (.mem (.abs32 abs)) (Fin.ofNat 8 (getReg8 s rn).toNat) (fun b => !b) s (exec (.bnotRnAa32 rn abs)
      s)) ∧
  (∀ (n : BitNum) (rd : Reg8) (s : State), ReplacesBit 2 (.reg rd) n (fun _ => true) s (exec (.bsetImm3Rd n rd) s)) ∧
  (∀ (n : BitNum) (erd : RegNum) (s : State),
    ReplacesBit 4 (.mem (.ind erd)) n (fun _ => true) s (exec (.bsetImm3AtERd n erd) s)) ∧
  (∀ (n : BitNum) (abs : BitVec 8) (s : State),
    ReplacesBit 4 (.mem (.abs8 abs)) n (fun _ => true) s (exec (.bsetImm3Aa8 n abs) s)) ∧
  (∀ (n : BitNum) (abs : BitVec 16) (s : State),
    ReplacesBit 6 (.mem (.abs16 abs)) n (fun _ => true) s (exec (.bsetImm3Aa16 n abs) s)) ∧
  (∀ (n : BitNum) (abs : BitVec 32) (s : State),
    ReplacesBit 8 (.mem (.abs32 abs)) n (fun _ => true) s (exec (.bsetImm3Aa32 n abs) s)) ∧
  (∀ (rn : Reg8) (rd : Reg8) (s : State),
    ReplacesBit 2 (.reg rd) (Fin.ofNat 8 (getReg8 s rn).toNat) (fun _ => true) s (exec (.bsetRnRd rn rd) s)) ∧
  (∀ (rn : Reg8) (erd : RegNum) (s : State),
    ReplacesBit 4 (.mem (.ind erd)) (Fin.ofNat 8 (getReg8 s rn).toNat) (fun _ => true) s (exec (.bsetRnAtERd rn erd)
      s)) ∧
  (∀ (rn : Reg8) (abs : BitVec 8) (s : State),
    ReplacesBit 4 (.mem (.abs8 abs)) (Fin.ofNat 8 (getReg8 s rn).toNat) (fun _ => true) s (exec (.bsetRnAa8 rn abs)
      s)) ∧
  (∀ (rn : Reg8) (abs : BitVec 16) (s : State),
    ReplacesBit 6 (.mem (.abs16 abs)) (Fin.ofNat 8 (getReg8 s rn).toNat) (fun _ => true) s (exec (.bsetRnAa16 rn abs)
      s)) ∧
  (∀ (rn : Reg8) (abs : BitVec 32) (s : State),
    ReplacesBit 8 (.mem (.abs32 abs)) (Fin.ofNat 8 (getReg8 s rn).toNat) (fun _ => true) s (exec (.bsetRnAa32 rn abs)
      s)) ∧
  (∀ (n : BitNum) (rd : Reg8) (s : State), ReplacesBit 2 (.reg rd) n (fun _ => s.ccr.c) s (exec (.bstImm3Rd n rd) s)) ∧
  (∀ (n : BitNum) (erd : RegNum) (s : State),
    ReplacesBit 4 (.mem (.ind erd)) n (fun _ => s.ccr.c) s (exec (.bstImm3AtERd n erd) s)) ∧
  (∀ (n : BitNum) (abs : BitVec 8) (s : State),
    ReplacesBit 4 (.mem (.abs8 abs)) n (fun _ => s.ccr.c) s (exec (.bstImm3Aa8 n abs) s)) ∧
  (∀ (n : BitNum) (abs : BitVec 16) (s : State),
    ReplacesBit 6 (.mem (.abs16 abs)) n (fun _ => s.ccr.c) s (exec (.bstImm3Aa16 n abs) s)) ∧
  (∀ (n : BitNum) (abs : BitVec 32) (s : State),
    ReplacesBit 8 (.mem (.abs32 abs)) n (fun _ => s.ccr.c) s (exec (.bstImm3Aa32 n abs) s))

/-- Bcc: the sixteen conditions, both displacement widths, frame (R107, R900, R902). -/
def Obligations.BranchesFollowConditions : Prop :=
  (∀ (disp : BitVec 8) (s : State), Branches 2 (disp.signExtend 24) true s (exec (.braD8 disp) s)) ∧
  (∀ (disp : BitVec 16) (s : State), Branches 4 (disp.signExtend 24) true s (exec (.braD16 disp) s)) ∧
  (∀ (disp : BitVec 8) (s : State), Branches 2 (disp.signExtend 24) false s (exec (.brnD8 disp) s)) ∧
  (∀ (disp : BitVec 16) (s : State), Branches 4 (disp.signExtend 24) false s (exec (.brnD16 disp) s)) ∧
  (∀ (disp : BitVec 8) (s : State), Branches 2 (disp.signExtend 24) (!(s.ccr.c || s.ccr.z)) s (exec (.bhiD8 disp) s)) ∧
  (∀ (disp : BitVec 16) (s : State),
    Branches 4 (disp.signExtend 24) (!(s.ccr.c || s.ccr.z)) s (exec (.bhiD16 disp) s)) ∧
  (∀ (disp : BitVec 8) (s : State), Branches 2 (disp.signExtend 24) (s.ccr.c || s.ccr.z) s (exec (.blsD8 disp) s)) ∧
  (∀ (disp : BitVec 16) (s : State), Branches 4 (disp.signExtend 24) (s.ccr.c || s.ccr.z) s (exec (.blsD16 disp) s)) ∧
  (∀ (disp : BitVec 8) (s : State), Branches 2 (disp.signExtend 24) (!s.ccr.c) s (exec (.bccD8 disp) s)) ∧
  (∀ (disp : BitVec 16) (s : State), Branches 4 (disp.signExtend 24) (!s.ccr.c) s (exec (.bccD16 disp) s)) ∧
  (∀ (disp : BitVec 8) (s : State), Branches 2 (disp.signExtend 24) s.ccr.c s (exec (.bcsD8 disp) s)) ∧
  (∀ (disp : BitVec 16) (s : State), Branches 4 (disp.signExtend 24) s.ccr.c s (exec (.bcsD16 disp) s)) ∧
  (∀ (disp : BitVec 8) (s : State), Branches 2 (disp.signExtend 24) (!s.ccr.z) s (exec (.bneD8 disp) s)) ∧
  (∀ (disp : BitVec 16) (s : State), Branches 4 (disp.signExtend 24) (!s.ccr.z) s (exec (.bneD16 disp) s)) ∧
  (∀ (disp : BitVec 8) (s : State), Branches 2 (disp.signExtend 24) s.ccr.z s (exec (.beqD8 disp) s)) ∧
  (∀ (disp : BitVec 16) (s : State), Branches 4 (disp.signExtend 24) s.ccr.z s (exec (.beqD16 disp) s)) ∧
  (∀ (disp : BitVec 8) (s : State), Branches 2 (disp.signExtend 24) (!s.ccr.v) s (exec (.bvcD8 disp) s)) ∧
  (∀ (disp : BitVec 16) (s : State), Branches 4 (disp.signExtend 24) (!s.ccr.v) s (exec (.bvcD16 disp) s)) ∧
  (∀ (disp : BitVec 8) (s : State), Branches 2 (disp.signExtend 24) s.ccr.v s (exec (.bvsD8 disp) s)) ∧
  (∀ (disp : BitVec 16) (s : State), Branches 4 (disp.signExtend 24) s.ccr.v s (exec (.bvsD16 disp) s)) ∧
  (∀ (disp : BitVec 8) (s : State), Branches 2 (disp.signExtend 24) (!s.ccr.n) s (exec (.bplD8 disp) s)) ∧
  (∀ (disp : BitVec 16) (s : State), Branches 4 (disp.signExtend 24) (!s.ccr.n) s (exec (.bplD16 disp) s)) ∧
  (∀ (disp : BitVec 8) (s : State), Branches 2 (disp.signExtend 24) s.ccr.n s (exec (.bmiD8 disp) s)) ∧
  (∀ (disp : BitVec 16) (s : State), Branches 4 (disp.signExtend 24) s.ccr.n s (exec (.bmiD16 disp) s)) ∧
  (∀ (disp : BitVec 8) (s : State), Branches 2 (disp.signExtend 24) (!(s.ccr.n ^^ s.ccr.v)) s (exec (.bgeD8 disp) s)) ∧
  (∀ (disp : BitVec 16) (s : State),
    Branches 4 (disp.signExtend 24) (!(s.ccr.n ^^ s.ccr.v)) s (exec (.bgeD16 disp) s)) ∧
  (∀ (disp : BitVec 8) (s : State), Branches 2 (disp.signExtend 24) (s.ccr.n ^^ s.ccr.v) s (exec (.bltD8 disp) s)) ∧
  (∀ (disp : BitVec 16) (s : State), Branches 4 (disp.signExtend 24) (s.ccr.n ^^ s.ccr.v) s (exec (.bltD16 disp) s)) ∧
  (∀ (disp : BitVec 8) (s : State),
    Branches 2 (disp.signExtend 24) (!(s.ccr.z || (s.ccr.n ^^ s.ccr.v))) s (exec (.bgtD8 disp) s)) ∧
  (∀ (disp : BitVec 16) (s : State),
    Branches 4 (disp.signExtend 24) (!(s.ccr.z || (s.ccr.n ^^ s.ccr.v))) s (exec (.bgtD16 disp) s)) ∧
  (∀ (disp : BitVec 8) (s : State),
    Branches 2 (disp.signExtend 24) (s.ccr.z || (s.ccr.n ^^ s.ccr.v)) s (exec (.bleD8 disp) s)) ∧
  (∀ (disp : BitVec 16) (s : State),
    Branches 4 (disp.signExtend 24) (s.ccr.z || (s.ccr.n ^^ s.ccr.v)) s (exec (.bleD16 disp) s))

/-- JMP: the three targets, frame (R936 to R938, R75; the environment before the read: R81, log 22). -/
def Obligations.JumpsGoToTarget : Prop :=
  ∀ (ern : RegNum) (abs8 : BitVec 8) (abs24 : BitVec 24) (s : State),
    Completes (exec (.jmpAtERn ern) s) (GoesTo ((getER s ern).setWidth 24) s) ∧
    Completes (exec (.jmpAa24 abs24) s) (GoesTo abs24 s) ∧
    Completes (exec (.jmpMemAa8 abs8) s) (GoesTo (indirectTarget s abs8) (beforeCycles (addressCycles s.cfg) s))

/-- BSR and JSR: the pushed return address, the target, frame (R901, R939 to R943; the reserved byte: D28, log 10; the
environment between bus cycles: R81, log 22). -/
def Obligations.CallsPushReturnAddress : Prop :=
  ∀ (ern : RegNum) (abs8 disp8 : BitVec 8) (disp16 : BitVec 16) (abs24 : BitVec 24) (s : State),
    Calls 2 (s.pc + 2 + disp8.signExtend 24) s (exec (.bsrD8 disp8) s) ∧
    Calls 4 (s.pc + 4 + disp16.signExtend 24) s (exec (.bsrD16 disp16) s) ∧
    Calls 2 ((getER s ern).setWidth 24) s (exec (.jsrAtERn ern) s) ∧
    Calls 4 abs24 s (exec (.jsrAa24 abs24) s) ∧
    Calls 2 (indirectTarget s abs8) (beforeCycles (addressCycles s.cfg) s) (exec (.jsrMemAa8 abs8) s)

/-- RTS: the popped return address, frame (R944, R901; the environment before the reads: R81, log 22). -/
def Obligations.RtsPopsReturnAddress : Prop :=
  ∀ s : State, Returns s (exec .rts s)

/-- TRAPA: frame pushed, mask bits, vector, what is kept (R804, R802, R476; D8 and D33, log 16 and 17; the environment
between bus cycles: R81, log 22). -/
def Obligations.TrapaTakesException : Prop :=
  ∀ (imm : BitVec 2) (s : State),
    Completes (exec (.trapa imm) s) fun t =>
      TakesException (s.pc + 2) (8 + imm.toNat) s.exr s t ∧ t.env = { s.env with acts := t.env.acts } ∧
        t.procState = s.procState ∧ t.inhibit = s.inhibit ∧ t.noTrace = s.noTrace ∧ t.stale = s.stale

/-- RTE: EXR, CCR and PC from the frame, ER7, no trace after it (R805, R802, R474; the environment before the reads:
R81, log 22). -/
def Obligations.RteRestoresFrame : Prop :=
  ∀ s : State, Completes (exec .rte s) (ReturnsFromException s)

/-- NOP and SLEEP (R806, R807). -/
def Obligations.SleepAndNopAdvance : Prop :=
  ∀ s : State,
    Completes (exec .nop s) (SetsCcr 2 s.ccr s) ∧
    Completes (exec .sleep s) (SetsCcr 2 s.ccr { s with procState := if s.env.ssby then .softwareStandby else .sleep })

/-- LDC, ANDC, ORC, XORC: CCR or EXR, the inhibit window, frame (R800, R801, for R810 to R825 and R850 to R855; the
environment before the read: R81, log 22). -/
def Obligations.ControlLoadsOpenInhibitWindow : Prop :=
  (∀ (imm : BitVec 8) (s : State), LoadsCcr 2 imm s (exec (.ldcBImm8CCR imm) s)) ∧
  (∀ (imm : BitVec 8) (s : State), LoadsExr 4 imm s (exec (.ldcBImm8EXR imm) s)) ∧
  (∀ (rs : Reg8) (s : State), LoadsCcr 2 (getReg8 s rs) s (exec (.ldcBRsCCR rs) s)) ∧
  (∀ (rs : Reg8) (s : State), LoadsExr 2 (getReg8 s rs) s (exec (.ldcBRsEXR rs) s)) ∧
  (∀ (ers : RegNum) (s : State),
    LoadsCcr 4 (evenByte s (Ea.addr (.ind ers) 2 s)) (beforeCycle (Ea.update (.ind ers) 2 s)) (exec (.ldcWAtERsCCR
      ers) s)) ∧
  (∀ (ers : RegNum) (disp : BitVec 16) (s : State),
    LoadsCcr 6 (evenByte s (Ea.addr (.disp16 ers disp) 2 s)) (beforeCycle (Ea.update (.disp16 ers disp) 2 s)) (exec
      (.ldcWD16ERsCCR ers disp) s)) ∧
  (∀ (ers : RegNum) (disp : BitVec 32) (s : State),
    LoadsCcr 10 (evenByte s (Ea.addr (.disp32 ers disp) 2 s)) (beforeCycle (Ea.update (.disp32 ers disp) 2 s)) (exec
      (.ldcWD32ERsCCR ers disp) s)) ∧
  (∀ (ers : RegNum) (s : State),
    LoadsCcr 4 (evenByte s (Ea.addr (.postInc ers) 2 s)) (beforeCycle (Ea.update (.postInc ers) 2 s)) (exec
      (.ldcWERsIncCCR ers) s)) ∧
  (∀ (abs : BitVec 16) (s : State),
    LoadsCcr 6 (evenByte s (Ea.addr (.abs16 abs) 2 s)) (beforeCycle (Ea.update (.abs16 abs) 2 s)) (exec (.ldcWAa16CCR
      abs) s)) ∧
  (∀ (abs : BitVec 32) (s : State),
    LoadsCcr 8 (evenByte s (Ea.addr (.abs32 abs) 2 s)) (beforeCycle (Ea.update (.abs32 abs) 2 s)) (exec (.ldcWAa32CCR
      abs) s)) ∧
  (∀ (ers : RegNum) (s : State),
    LoadsExr 4 (evenByte s (Ea.addr (.ind ers) 2 s)) (beforeCycle (Ea.update (.ind ers) 2 s)) (exec (.ldcWAtERsEXR
      ers) s)) ∧
  (∀ (ers : RegNum) (disp : BitVec 16) (s : State),
    LoadsExr 6 (evenByte s (Ea.addr (.disp16 ers disp) 2 s)) (beforeCycle (Ea.update (.disp16 ers disp) 2 s)) (exec
      (.ldcWD16ERsEXR ers disp) s)) ∧
  (∀ (ers : RegNum) (disp : BitVec 32) (s : State),
    LoadsExr 10 (evenByte s (Ea.addr (.disp32 ers disp) 2 s)) (beforeCycle (Ea.update (.disp32 ers disp) 2 s)) (exec
      (.ldcWD32ERsEXR ers disp) s)) ∧
  (∀ (ers : RegNum) (s : State),
    LoadsExr 4 (evenByte s (Ea.addr (.postInc ers) 2 s)) (beforeCycle (Ea.update (.postInc ers) 2 s)) (exec
      (.ldcWERsIncEXR ers) s)) ∧
  (∀ (abs : BitVec 16) (s : State),
    LoadsExr 6 (evenByte s (Ea.addr (.abs16 abs) 2 s)) (beforeCycle (Ea.update (.abs16 abs) 2 s)) (exec (.ldcWAa16EXR
      abs) s)) ∧
  (∀ (abs : BitVec 32) (s : State),
    LoadsExr 8 (evenByte s (Ea.addr (.abs32 abs) 2 s)) (beforeCycle (Ea.update (.abs32 abs) 2 s)) (exec (.ldcWAa32EXR
      abs) s)) ∧
  (∀ (imm : BitVec 8) (s : State), LoadsCcr 2 (s.ccr.toByte &&& imm) s (exec (.andcImm8CCR imm) s)) ∧
  (∀ (imm : BitVec 8) (s : State), LoadsExr 4 (s.exr.toByte &&& imm) s (exec (.andcImm8EXR imm) s)) ∧
  (∀ (imm : BitVec 8) (s : State), LoadsCcr 2 (s.ccr.toByte ||| imm) s (exec (.orcImm8CCR imm) s)) ∧
  (∀ (imm : BitVec 8) (s : State), LoadsExr 4 (s.exr.toByte ||| imm) s (exec (.orcImm8EXR imm) s)) ∧
  (∀ (imm : BitVec 8) (s : State), LoadsCcr 2 (s.ccr.toByte ^^^ imm) s (exec (.xorcImm8CCR imm) s)) ∧
  (∀ (imm : BitVec 8) (s : State), LoadsExr 4 (s.exr.toByte ^^^ imm) s (exec (.xorcImm8EXR imm) s))

/-- STC: CCR or EXR to a register or to memory, frame (R800, for R830 to R843; D16, log 10; the environment before the
write: R81, log 22). -/
def Obligations.StcStoresControlRegister : Prop :=
  (∀ (rd : Reg8) (s : State), Alters 2 (.b rd) s.ccr.toByte s.ccr s (exec (.stcBCCRRd rd) s)) ∧
  (∀ (rd : Reg8) (s : State), Alters 2 (.b rd) s.exr.toByte s.ccr s (exec (.stcBEXRRd rd) s)) ∧
  (∀ (erd : RegNum) (s : State), StoresControl 4 s.ccr.toByte (.ind erd) s (exec (.stcWCCRAtERd erd) s)) ∧
  (∀ (erd : RegNum) (disp : BitVec 16) (s : State),
    StoresControl 6 s.ccr.toByte (.disp16 erd disp) s (exec (.stcWCCRD16ERd erd disp) s)) ∧
  (∀ (erd : RegNum) (disp : BitVec 32) (s : State),
    StoresControl 10 s.ccr.toByte (.disp32 erd disp) s (exec (.stcWCCRD32ERd erd disp) s)) ∧
  (∀ (erd : RegNum) (s : State), StoresControl 4 s.ccr.toByte (.preDec erd) s (exec (.stcWCCRDecERd erd) s)) ∧
  (∀ (abs : BitVec 16) (s : State), StoresControl 6 s.ccr.toByte (.abs16 abs) s (exec (.stcWCCRAa16 abs) s)) ∧
  (∀ (abs : BitVec 32) (s : State), StoresControl 8 s.ccr.toByte (.abs32 abs) s (exec (.stcWCCRAa32 abs) s)) ∧
  (∀ (erd : RegNum) (s : State), StoresControl 4 s.exr.toByte (.ind erd) s (exec (.stcWEXRAtERd erd) s)) ∧
  (∀ (erd : RegNum) (disp : BitVec 16) (s : State),
    StoresControl 6 s.exr.toByte (.disp16 erd disp) s (exec (.stcWEXRD16ERd erd disp) s)) ∧
  (∀ (erd : RegNum) (disp : BitVec 32) (s : State),
    StoresControl 10 s.exr.toByte (.disp32 erd disp) s (exec (.stcWEXRD32ERd erd disp) s)) ∧
  (∀ (erd : RegNum) (s : State), StoresControl 4 s.exr.toByte (.preDec erd) s (exec (.stcWEXRDecERd erd) s)) ∧
  (∀ (abs : BitVec 16) (s : State), StoresControl 6 s.exr.toByte (.abs16 abs) s (exec (.stcWEXRAa16 abs) s)) ∧
  (∀ (abs : BitVec 32) (s : State), StoresControl 8 s.exr.toByte (.abs32 abs) s (exec (.stcWEXRAa32 abs) s))

/-- EEPMOV.B: all R4L bytes moved, ER5, ER6, R4L, frame (R451, R482; the environment between bus cycles: R70, R81, log
22). -/
def Obligations.EepmovByteMovesAllBytes : Prop :=
  ∀ s : State,
    Completes (exec .eepmovB s) fun t =>
      BlockMoved (getReg8 s (.l 4)).toNat s t ∧ getReg8 t (.l 4) = 0 ∧ getReg8 t (.h 4) = getReg8 s (.h 4) ∧
        t.env = { s.env with acts := t.env.acts } ∧ Advanced 4 s t

/-- EEPMOV.W: moves bytes up to the first one after which the interrupt offered there is accepted, or all; ER5, ER6,
R4, the offers left, frame (R452, R482; which offer stands at which examination is the model's choice: log 15, and log
22 for the granularity, D13). -/
def Obligations.EepmovWordStopsAtAcceptedInterrupt : Prop :=
  ∀ s : State,
    Completes (exec .eepmovW s) fun t =>
      ∃ j, j ≤ (getReg16 s (.r 4)).toNat ∧ (∀ k, 0 < k → k < j → acceptedAt k s = false) ∧
        (j = (getReg16 s (.r 4)).toNat ∨ 0 < j ∧ acceptedAt j s = true) ∧ BlockMoved j s t ∧
        getReg16 t (.r 4) = getReg16 s (.r 4) - BitVec.ofNat 16 j ∧ Advanced 4 s t ∧
        t.env = { s.env with
          offers := offersAt (if 0 < j ∧ acceptedAt j s = true then j else j + 1) s
          acts := t.env.acts }

/-- The model's state after reset satisfies the model's invariant (the canonical form is the model's own, log 5 and 6;
PC even and within 16 bits are D12 and D11, which decide what R29 and R28 leave open, log 14). -/
def Obligations.ResetStateIsGood : Prop :=
  State.reset.Inv

/-- Every step keeps memory canonical, PC even, and PC within 16 bits in normal mode (R28 and R29 as D11 and D12
decide them, log 14; the canonical form is the model's own). -/
def Obligations.EveryStepKeepsInvariant : Prop :=
  ∀ s t : State, s.Inv → step s = .next t → t.Inv

/-- Decoding the encoding of a well-formed instruction gives it back, with every operand (R100 to R118). -/
def Obligations.DecodeReadsEncodedInstruction : Prop :=
  ∀ (i : Instr) (rest : List Byte), i.wellFormed = true → decode (encode i ++ rest) = some i

/-- The decoder yields well-formed instructions only: no unlisted register, and POP and PUSH where they share an
encoding with MOV (the model's choice) (R114, R189, R190 and R278 with log 11; that POP and PUSH, not MOV @ER7+ and
@-ER7, name the shared encodings of R118 is the model's choice, log 31). -/
def Obligations.DecodedInstructionsAreWellFormed : Prop :=
  ∀ (bytes : List Byte) (i : Instr), decode bytes = some i → i.wellFormed = true

/-- A step: the environment acts at the boundary, then the decoded instruction is run (R81, R461, R484; the model's
own: the offers, log 15, the acts and their placing by granularity, log 22, the noted changes of memory and the note
that prefetched words are out of date, log 13). -/
def Obligations.StepRunsDecodedInstruction : Prop :=
  ∀ s : State, let b := atBoundary s
    AtBoundary s b ∧
    ∀ i : Instr, b.Executes → b.stale = false → decode (instrBytes b) = some i →
      (∀ t, exec i (beginInstr b) = .next t → ¬ StoresInto (prefetchWindow i.size b) t.writes →
        step s = .next { t with env := { t.env with
          offers := match s.cfg.granularity with
            | .instruction => if s.inhibit then s.env.offers else laterOffers s.env.offers
            | .busCycle => t.env.offers } }) ∧
      (∀ r, exec i (beginInstr b) = .refused r → step s = .refused r) ∧
      beginInstr b =
        { b with
          inhibit := false
          noTrace := false
          env := { b.env with
            offers := match s.cfg.granularity with
              | .instruction => s.env.offers
              | .busCycle => if s.inhibit then s.env.offers else laterOffers s.env.offers } }

/-- A step refuses, by name, bytes that are no instruction, and code that may have been prefetched before it was
stored into (R114, log 11; R85, D14, log 13). -/
def Obligations.UndefinedBytesAndPrefetchStoresRefused : Prop :=
  ∀ s : State, let b := atBoundary s
    b.Executes →
      (b.stale = true → step s = .refused .storeIntoPrefetch) ∧
      (b.stale = false → decode (instrBytes b) = none → step s = .refused .undefinedEncoding) ∧
      ∀ i t, b.stale = false → decode (instrBytes b) = some i → exec i (beginInstr b) = .next t →
        StoresInto (prefetchWindow i.size b) t.writes → step s = .refused .storeIntoPrefetch

/-- Fetch reads the bytes at PC, PC + 1, ... in memory order (R67). -/
def Obligations.FetchReadsConsecutiveBytes : Prop :=
  ∀ s : State, s.Inv → (s.cfg.mode = .advanced → s.cfg.addrMask.getLsbD 0 = true) → ∀ k, k < 10 →
    (instrBytes s)[k]? = some (readByte s.mem (byteKey s.cfg ((s.pc + BitVec.ofNat 24 k).setWidth 32)))

/-- Eight words written out from the encoding tables decode to their instructions (the rows of 30_encoding.md). -/
def Obligations.DecoderReadsSpecWords : Prop :=
  decode [0x0F#8, 0xA3#8] = some (.movLERsERd 2 3) ∧
    decode [0x8B#8, 0x12#8] = some (.addBImm8Rd 0x12#8 (.l 3)) ∧
    decode [0x01#8, 0xF0#8, 0x64#8, 0x21#8] = some (.orLERsERd 2 1) ∧
    decode [0x11#8, 0xF1#8] = some (.sharLBy2ERd 1) ∧
    decode [0x7D#8, 0x10#8, 0x60#8, 0x20#8] = some (.bsetRnAtERd (.h 2) 1) ∧
    decode [0x58#8, 0x70#8, 0x01#8, 0x00#8] = some (.beqD16 0x0100#16) ∧
    decode [0x57#8, 0x30#8] = some (.trapa 3#2) ∧
    decode [0x7B#8, 0xD4#8, 0x59#8, 0x8F#8] = some .eepmovW

/-- An offered interrupt is taken unless masked or inhibited (R475 to R481; Masked(req) and the offers: D9, log 15;
EXR on entry: D33, log 16; UI: D8, log 17; the environment: R81, log 22). -/
def Obligations.InterruptsAreTakenUnlessMasked : Prop :=
  ∀ (s : State) (req : Request) (rest : List (Option Request)),
    s.procState = .programExecution → s.env.standbyAsserted = false → s.env.resetAsserted = false →
    s.env.busRequest = false → traceDue s = false → s.env.offers = some req :: rest →
    let b := atBoundary s
    (s.inhibit = false → (req.nmi = true ∨ Masks s req false) →
      Completes (step s) fun t =>
        TakesException s.pc req.vector (if exrValid s.cfg then { s.exr with level := req.newLevel } else s.exr) b t ∧
          t.env = { s.env with offers := rest, acts := t.env.acts } ∧ t.procState = .programExecution ∧
          t.inhibit = false ∧ t.noTrace = false ∧ t.stale = false) ∧
    (s.inhibit = true ∨ req.nmi = false ∧ Masks s req true → b.Executes)

/-- Trace exception: taken before an interrupt, frame, EXR.T cleared, vector (R474, R484; the trace vector: D10, log
1; the order with inhibit: D34, log 16; the environment: R81, log 22). -/
def Obligations.TraceIsTakenAfterTracedInstruction : Prop :=
  ∀ s : State, s.procState = .programExecution → s.env.standbyAsserted = false → s.env.resetAsserted = false →
    s.env.busRequest = false →
    (s.cfg.intm = .mode2 ∨ s.cfg.intm = .mode3) → s.exr.t = true → s.noTrace = false →
    Completes (step s) fun t =>
      TakesException s.pc s.cfg.traceVector { s.exr with t := false } (atBoundary s) t ∧
        t.env = { s.env with acts := t.env.acts } ∧ t.procState = .programExecution ∧ t.inhibit = false ∧
        t.noTrace = false ∧ t.stale = false

/-- Reset: accepted first and in every processing state, then I, EXR, inhibit and PC from the vector (R45, R460, R470,
R471, R520, R521; the kinds of reset: D35, log 18; reset before STBY: log 20; inside an instruction: D13, log 22; what
is refused: log 13). -/
def Obligations.ResetLoadsVectorAndMasks : Prop :=
  (State.reset.ccr.i = true ∧ State.reset.exr = ⟨false, 7⟩ ∧ State.reset.procState = .programExecution ∧
      State.reset.inhibit = true ∧ State.reset.noTrace = false ∧
      State.reset.pc = pcValue State.reset.cfg.mode (vectorAddress State.reset 0)) ∧
    ∀ s : State, let b := atBoundary s
      (s.env.resetAsserted = true →
        (s.SeenAtBoundary → step s = .next { b with procState := .reset }) ∧
        ∀ n, s.cfg.granularity = .busCycle → s.env.arrival = .afterWrites n → s.procState ≠ .reset →
          (∀ d, undertake b = .next d → ∃ done, CutAfter n d.ends.writes.reverse done ∧
            (StoresInto d.window done → step s = .refused .storeIntoPrefetch) ∧
            (¬ StoresInto d.window done → Completes (step s) fun u => u.procState = .reset ∧ LeavesChanges done b u)) ∧
          (∀ r, undertake b = .refused r → step s = .refused r) ∧
          ∀ i t, s.procState = .programExecution → s.env.busRequest = false → traceDue s = false →
            acceptedRequest s = none → b.stale = false → decode (instrBytes b) = some i → exec i (beginInstr b) = .next t →
            undertake b = .next { ends := endInstr b t, window := prefetchWindow i.size b }) ∧
      (s.env.resetAsserted = false → s.env.standbyAsserted = false →
        step s = proceed b ∧
        (s.procState = .reset → Completes (step s) fun t =>
          t.ccr.i = true ∧ t.exr = ⟨false, 7⟩ ∧ t.procState = .programExecution ∧ t.inhibit = true ∧
            t.noTrace = false ∧
            t.pc = pcValue s.cfg.mode
              (vectorAddress b (match s.env.resetKind with | .powerOn => 0 | .manual => 1)) ∧
            t.mem = (beforeCycles (addressCycles s.cfg) b).mem ∧ t.cfg = s.cfg ∧
            t.env = { s.env with acts := t.env.acts }))

/-- Sleep, standby and bus-released states: what keeps and what ends them (R460, R464, R465, R806; D18, log 19; D36,
log 20; D19, log 21; R81 and D13, log 22; what is refused: log 13). -/
def Obligations.WaitingStatesWaitForTheirEvent : Prop :=
  ∀ s : State, s.env.resetAsserted = false → let b := atBoundary s
    (s.env.standbyAsserted = true →
      (s.procState = .hardwareStandby → step s = .next b) ∧
      (s.procState ≠ .hardwareStandby →
        (s.SeenAtBoundary → Completes (step s) fun t =>
          t.procState = .hardwareStandby ∧ t.mem = b.mem ∧ t.cfg = s.cfg ∧ t.env = b.env) ∧
        ∀ n d, s.cfg.granularity = .busCycle → s.env.arrival = .afterWrites n → s.procState ≠ .reset →
          undertake b = .next d → ∃ done, CutAfter n d.ends.writes.reverse done ∧
            (StoresInto d.window done → step s = .refused .storeIntoPrefetch) ∧
            (¬ StoresInto d.window done →
              Completes (step s) fun u => u.procState = .hardwareStandby ∧ LeavesChanges done b u))) ∧
    (s.env.standbyAsserted = false →
      (s.procState = .hardwareStandby → step s = .next b) ∧
      (s.procState = .busReleased →
        step s = .next (if s.env.busRequest then b else { b with procState := .programExecution })) ∧
      (s.procState = .programExecution → s.env.busRequest = true → step s = .next { b with procState := .busReleased }) ∧
      (s.procState = .sleep ∨ s.procState = .softwareStandby → traceDue s = false →
        (acceptedRequest s = none →
          step s = .next { b with env := { b.env with
            offers := if s.inhibit then s.env.offers else laterOffers s.env.offers } }) ∧
        ∀ req, acceptedRequest s = some req → Completes (step s) fun t =>
          TakesException s.pc req.vector (if exrValid s.cfg then { s.exr with level := req.newLevel } else s.exr) b t ∧
            t.procState = .programExecution))

/-- After a step inhibit is set exactly by LDC, ANDC, ORC and XORC, and then no interrupt is accepted (R33, R481). -/
def Obligations.OnlyControlLoadsOpenInhibitWindow : Prop :=
  ∀ (s t : State) (i : Instr), (atBoundary s).Executes → decode (instrBytes (atBoundary s)) = some i → step s = .next t →
    t.inhibit = opensInhibit i ∧ (opensInhibit i = true → acceptedRequest t = none)

/-- No step changes a parameter or an input; offers and acts are taken from the front; memory changes by the noted
writes and the environment's acts only (R6, R7, R81; the offers: log 15; the acts: log 22; the noted changes of memory
are the model's own, log 13). -/
def Obligations.ParametersAndInputsNeverChange : Prop :=
  ∀ s t : State, step s = .next t →
    t.cfg = s.cfg ∧ t.env.inputs = s.env.inputs ∧ t.env.offers <:+ s.env.offers ∧
      let b := atBoundary s
      AtBoundary s b ∧ t.mem = t.writes.reverse.foldl performChange b.mem ∧
        b.env.acts = environmentWrites t.writes.reverse ++ t.env.acts

/-- MAC, multiplier flags, EXR, processing state and no_trace change by their own instructions only (R33, R39, R40,
R280, R805, R806). -/
def Obligations.SpecialRegistersChangeByTheirInstructionsOnly : Prop :=
  ∀ (i : Instr) (s t : State), exec i s = .next t →
    (writesMac i = false → t.mach = s.mach ∧ t.macl = s.macl ∧ t.nMult = s.nMult ∧ t.zMult = s.zMult ∧ t.vMult = s.vMult) ∧
    (writesExr i = false → t.exr = s.exr) ∧
    (i ≠ .sleep → t.procState = s.procState) ∧ (i ≠ .rte → t.noTrace = s.noTrace)

/-- Every well-formed instruction of the CPU completes in every state (R466, R114, R115). -/
def Obligations.WellFormedInstructionsComplete : Prop :=
  ∀ (i : Instr) (s : State), i.wellFormed = true → (s.cfg.cpu = .h8s2600 ∨ inMacGroup i = false) →
    ∃ t, exec i s = .next t

/-- RTE right after TRAPA restores the registers, CCR, EXR and the address of the next instruction (R802, R804, R805;
the environment: R81, log 22). -/
def Obligations.TrapaThenRteReturns : Prop :=
  ∀ (imm : BitVec 2) (s t : State), s.Undisturbed → (frameKeys s).Nodup → exec (.trapa imm) s = .next t →
    Completes (exec .rte t) fun u =>
      SameRegisters s u ∧ u.ccr = s.ccr ∧ u.exr = s.exr ∧ u.pc = pcValue s.cfg.mode (s.pc + 2) ∧ u.mem = t.mem

/-- RTS right after BSR or JSR returns to the next instruction (R901, R939 to R944; the environment: R81, log 22). -/
def Obligations.CallThenRtsReturns : Prop :=
  ∀ (ern : RegNum) (abs8 disp8 : BitVec 8) (disp16 : BitVec 16) (abs24 : BitVec 24) (s t : State),
    s.Undisturbed → (longKeys s.cfg (getER s 7 - 4)).Nodup →
    ∀ i ∈ [Instr.bsrD8 disp8, .bsrD16 disp16, .jsrAtERn ern, .jsrAa24 abs24, .jsrMemAa8 abs8], exec i s = .next t →
      Completes (exec .rts t) fun u =>
        SameRegisters s u ∧ u.ccr = s.ccr ∧ u.pc = pcValue s.cfg.mode (s.pc + BitVec.ofNat 24 i.size) ∧ u.mem = t.mem

/-- En, Rn, RnH and RnL are views of ERn (R21). -/
def Obligations.RegisterNamesAreViews : Prop :=
  ∀ (s : State) (n : RegNum) (v : Half) (u : Byte),
    (getReg16 s (.e n) = (getER s n).extractLsb' 16 16 ∧ getReg16 s (.r n) = (getER s n).extractLsb' 0 16 ∧
      getReg8 s (.h n) = (getER s n).extractLsb' 8 8 ∧ getReg8 s (.l n) = (getER s n).extractLsb' 0 8) ∧
    (∀ j, j < 32 →
      (getER (setReg16 s (.e n) v) n).getLsbD j = (if 16 ≤ j then v.getLsbD (j - 16) else (getER s n).getLsbD j) ∧
      (getER (setReg16 s (.r n) v) n).getLsbD j = (if j < 16 then v.getLsbD j else (getER s n).getLsbD j) ∧
      (getER (setReg8 s (.h n) u) n).getLsbD j = (if 8 ≤ j ∧ j < 16 then u.getLsbD (j - 8) else (getER s n).getLsbD j) ∧
      (getER (setReg8 s (.l n) u) n).getLsbD j = (if j < 8 then u.getLsbD j else (getER s n).getLsbD j)) ∧
    OtherRegisters n s (setReg16 s (.e n) v) ∧ OtherRegisters n s (setReg16 s (.r n) v) ∧
    OtherRegisters n s (setReg8 s (.h n) u) ∧ OtherRegisters n s (setReg8 s (.l n) u)

/-- Byte, word and longword accesses: addresses normalised, big-endian, even, read back, all else kept, the
environment before each bus cycle, writes noted (R61 to R66, R70, R81; D7, log 27; D13, log 22; the canonical form is
the model's own, and so are the noted changes of memory, log 13 and 22). -/
def Obligations.MemoryReadsWhatWasWritten : Prop :=
  ∀ (s : State) (a : Long) (b : Byte) (h : Half) (l : Long), let s1 := beforeCycle s
    ((s.cfg.mode = .normal → (norm s.cfg a).toNat = a.toNat % 2 ^ 16) ∧
      (s.cfg.mode = .advanced → norm s.cfg a = a &&& s.cfg.addrMask)) ∧
    ((s.Undisturbed → s1 = s) ∧
      (s.cfg.granularity = .busCycle → ∀ act acts, s.env.acts = act :: acts →
        s1 = { s with
          mem := performCycle s.mem act
          writes := .environment act :: s.writes
          env := { s.env with acts := acts } })) ∧
    (let k := (norm s.cfg a).toNat; read8 s a = readByte s1.mem k ∧ readByte (write8 s a b).mem k = b ∧
      SameMemoryOutside [k] s1 (write8 s a b)) ∧
    (let e := (norm s.cfg a &&& 0xFFFFFFFE#32).toNat; read16 s a = readByte s1.mem e ++ readByte s1.mem (e + 1) ∧
      readByte (write16 s a h).mem e = h.extractLsb' 8 8 ∧ readByte (write16 s a h).mem (e + 1) = h.extractLsb' 0 8 ∧
      SameMemoryOutside [e, e + 1] s1 (write16 s a h)) ∧
    (let e := a &&& 0xFFFFFFFE#32; read32 s a = read16 s e ++ read16 s1 (e + 2) ∧
      write32 s a l = write16 (write16 s e (l.extractLsb' 16 16)) (e + 2) (l.extractLsb' 0 16) ∧
      SameMemoryOutside (longKeys s.cfg a) (beforeCycle s1) (write32 s a l)) ∧
    (s.Undisturbed → read8 (write8 s a b) a = b ∧ read16 (write16 s a h) a = h ∧
      ((longKeys s.cfg a).Nodup → read32 (write32 s a l) a = l)) ∧
    (s.mem.wf = true → s1.mem.wf = true ∧ (write8 s a b).mem.wf = true ∧ (write16 s a h).mem.wf = true ∧
      (write32 s a l).mem.wf = true) ∧
    (let c : WriteCycle := [(norm s.cfg a, b)];
      (write8 s a b).writes = .cpu c :: s1.writes ∧ (write8 s a b).mem = performCycle s1.mem c) ∧
    (let e := norm s.cfg a &&& 0xFFFFFFFE#32;
      let c : WriteCycle := [(e, h.extractLsb' 8 8), (e + 1, h.extractLsb' 0 8)];
      (write16 s a h).writes = .cpu c :: s1.writes ∧ (write16 s a h).mem = performCycle s1.mem c)

/-- The data addressing modes: address and register update with frame; what an assignment to PC stores (R71; R28 and
R29 as D11 and D12 decide them, log 14). -/
def Obligations.AddressingModesAndPcValues : Prop :=
  ∀ (s : State) (n : RegNum) (d16 : BitVec 16) (d32 : BitVec 32) (aa8 : BitVec 8) (sz : Long) (v : BitVec 24),
    ((Ea.ind n).addr sz s = getER s n ∧ (Ea.disp16 n d16).addr sz s = getER s n + BitVec.ofInt 32 d16.toInt ∧
      (Ea.disp32 n d32).addr sz s = getER s n + d32 ∧ (Ea.postInc n).addr sz s = getER s n ∧
      (Ea.preDec n).addr sz s = getER s n - sz ∧ ((Ea.abs8 aa8).addr sz s).toNat = 0xFFFFFF00 + aa8.toNat ∧
      (Ea.abs16 d16).addr sz s = BitVec.ofInt 32 d16.toInt ∧ (Ea.abs32 d32).addr sz s = d32) ∧
    (let t := (Ea.postInc n).update sz s;
      getER t n = getER s n + sz ∧ OtherRegisters n s t ∧ SameMemory s t ∧ t.ccr = s.ccr ∧ t.pc = s.pc ∧ Untouched s t) ∧
    (let t := (Ea.preDec n).update sz s;
      getER t n = getER s n - sz ∧ OtherRegisters n s t ∧ SameMemory s t ∧ t.ccr = s.ccr ∧ t.pc = s.pc ∧ Untouched s t) ∧
    (∀ ea ∈ [Ea.ind n, .disp16 n d16, .disp32 n d32, .abs8 aa8, .abs16 d16, .abs32 d32], ea.update sz s = s) ∧
    (pcValue .advanced v).toNat = v.toNat / 2 * 2 ∧ (pcValue .normal v).toNat = v.toNat % 2 ^ 16 / 2 * 2

/-- CCR and EXR as bytes (R800, R30, R34). -/
def Obligations.ControlRegistersAsBytes : Prop :=
  ∀ (c : Ccr) (x : Exr) (v : Byte),
    Ccr.ofByte c.toByte = c ∧ (Ccr.ofByte v).toByte = v ∧ Ccr.ofByte v = ccrOf v ∧
    Exr.ofByte x.toByte = x ∧ (Exr.ofByte v).toByte = v ||| 0x78#8 ∧ Exr.ofByte v = exrOf v
end

