-- ==== Sys2Proof/Laws/Encoding.lean ====
section
/-! SUPPORT. The small lemmas of the decoder's and the encoder's pieces: what was put into a nibble, a register field or a
multi-byte field is what is read from it. -/

namespace Sys2Proof

@[simp] theorem hi_nib (h l : BitVec 4) : hi (nib h l) = h := BitVec.extractLsb'_append_eq_left

@[simp] theorem lo_nib (h l : BitVec 4) : lo (nib h l) = l := BitVec.extractLsb'_append_eq_right

@[simp] theorem hi_literal (n : Nat) : hi (BitVec.ofNat 8 n) = BitVec.ofNat 4 (n / 16) := by
  apply BitVec.eq_of_toNat_eq; simp [hi, Nat.shiftRight_eq_div_pow]; omega

@[simp] theorem lo_literal (n : Nat) : lo (BitVec.ofNat 8 n) = BitVec.ofNat 4 n := by
  apply BitVec.eq_of_toNat_eq; simp [lo]

@[simp] theorem topBit_literal (n : Nat) : topBit (BitVec.ofNat 4 n) = decide (8 ≤ n % 16) := by
  rw [topBit, BitVec.getLsbD_ofNat, Nat.testBit_eq_decide_div_mod_eq, Bool.eq_iff_iff]; simp; omega

@[simp] theorem low3_literal (n : Nat) : low3 (BitVec.ofNat 4 n) = Fin.ofNat 8 n := by
  apply Fin.ext; simp [low3]

@[simp] theorem byTop_literal {α : Type} (n : Nat) (a b : α) :
    byTop (BitVec.ofNat 4 n) a b = if 8 ≤ n % 16 then b else a := by simp [byTop]

@[simp] theorem topBit_nib0 (n : Fin 8) : topBit (nib0 n) = false := by revert n; decide

@[simp] theorem topBit_nib1 (n : Fin 8) : topBit (nib1 n) = true := by revert n; decide

@[simp] theorem low3_nib0 (n : Fin 8) : low3 (nib0 n) = n := by revert n; decide

@[simp] theorem low3_nib1 (n : Fin 8) : low3 (nib1 n) = n := by revert n; decide

@[simp] theorem er0_nib0 (n : Fin 8) : er0 (nib0 n) = some n := by simp [er0]

@[simp] theorem er0_nib1 (n : Fin 8) : er0 (nib1 n) = none := by simp [er0]

@[simp] theorem byTop_nib0 {α : Type} (n : Fin 8) (a b : α) : byTop (nib0 n) a b = a := by simp [byTop]

@[simp] theorem byTop_nib1 {α : Type} (n : Fin 8) (a b : α) : byTop (nib1 n) a b = b := by simp [byTop]

@[simp] theorem reg8Of_nib8 (r : Reg8) : reg8Of (nib8 r) = r := by cases r <;> simp [reg8Of, nib8]

@[simp] theorem reg16Of_nib16 (r : Reg16) : reg16Of (nib16 r) = r := by cases r <;> simp [reg16Of, nib16]

/-- The two bytes of a 16-bit field joined again. -/
theorem join16 (v : BitVec 16) : v.extractLsb' 8 8 ++ v.extractLsb' 0 8 = v := by
  rw [BitVec.extractLsb'_append_extractLsb'_eq_extractLsb' (by omega)]; simp

/-- The upper byte and the rest of a 24-bit field joined again. -/
theorem join24 (v : BitVec 24) : v.extractLsb' 16 8 ++ (v.extractLsb' 8 8 ++ v.extractLsb' 0 8) = v := by
  rw [BitVec.extractLsb'_append_extractLsb'_eq_extractLsb' (start₂ := 8) (by omega),
    BitVec.extractLsb'_append_extractLsb'_eq_extractLsb' (start₂ := 16) (by omega)]
  simp

/-- The vector field of TRAPA read back. -/
theorem trapa_field (imm : BitVec 2) :
    nib (0#2 ++ imm) 0#4 &&& 0xCF#8 = 0#8 ∧ (nib (0#2 ++ imm) 0#4).extractLsb' 4 2 = imm := by revert imm; decide

/-- The four bytes of a 32-bit field joined again. -/
theorem join32 (v : BitVec 32) :
    v.extractLsb' 24 8 ++ v.extractLsb' 16 8 ++ v.extractLsb' 8 8 ++ v.extractLsb' 0 8 = v := by
  rw [BitVec.extractLsb'_append_extractLsb'_eq_extractLsb' (start₂ := 24) (by omega),
    BitVec.extractLsb'_append_extractLsb'_eq_extractLsb' (start₂ := 16) (by omega),
    BitVec.extractLsb'_append_extractLsb'_eq_extractLsb' (start₂ := 8) (by omega)]
  simp

@[simp] theorem take16_bytes16 (v : BitVec 16) (rest : List Byte) : take16 (bytes16 v ++ rest) = some v := by
  simp [take16, bytes16, join16]

@[simp] theorem take32_bytes32 (v : BitVec 32) (rest : List Byte) : take32 (bytes32 v ++ rest) = some v := by
  simp [take32, bytes32, join32]

end Sys2Proof
end

