-- ==== Sys2Proof/Laws/State.lean ====
section
/-! SUPPORT. What each field of the state is after each update: one lemma per field per update, all true by `rfl` or by cases on
the operand, all for `simp`. -/

namespace Sys2Proof.Machine

section setER

variable (s : State) (n : RegNum) (v : Long)

@[simp] theorem setER_cfg : (setER s n v).cfg = s.cfg := rfl
@[simp] theorem setER_env : (setER s n v).env = s.env := rfl
@[simp] theorem setER_er : (setER s n v).er = s.er.set n.val v := rfl
@[simp] theorem setER_pc : (setER s n v).pc = s.pc := rfl
@[simp] theorem setER_ccr : (setER s n v).ccr = s.ccr := rfl
@[simp] theorem setER_exr : (setER s n v).exr = s.exr := rfl
@[simp] theorem setER_mach : (setER s n v).mach = s.mach := rfl
@[simp] theorem setER_macl : (setER s n v).macl = s.macl := rfl
@[simp] theorem setER_nMult : (setER s n v).nMult = s.nMult := rfl
@[simp] theorem setER_zMult : (setER s n v).zMult = s.zMult := rfl
@[simp] theorem setER_vMult : (setER s n v).vMult = s.vMult := rfl
@[simp] theorem setER_procState : (setER s n v).procState = s.procState := rfl
@[simp] theorem setER_inhibit : (setER s n v).inhibit = s.inhibit := rfl
@[simp] theorem setER_noTrace : (setER s n v).noTrace = s.noTrace := rfl
@[simp] theorem setER_stale : (setER s n v).stale = s.stale := rfl
@[simp] theorem setER_writes : (setER s n v).writes = s.writes := rfl
@[simp] theorem setER_draws : (setER s n v).draws = s.draws := rfl
@[simp] theorem setER_mem : (setER s n v).mem = s.mem := rfl

end setER

section setPc

variable (s : State) (v : BitVec 24)

@[simp] theorem setPc_cfg : (setPc s v).cfg = s.cfg := rfl
@[simp] theorem setPc_env : (setPc s v).env = s.env := rfl
@[simp] theorem setPc_er : (setPc s v).er = s.er := rfl
@[simp] theorem setPc_pc : (setPc s v).pc = pcValue s.cfg.mode v := rfl
@[simp] theorem setPc_ccr : (setPc s v).ccr = s.ccr := rfl
@[simp] theorem setPc_exr : (setPc s v).exr = s.exr := rfl
@[simp] theorem setPc_mach : (setPc s v).mach = s.mach := rfl
@[simp] theorem setPc_macl : (setPc s v).macl = s.macl := rfl
@[simp] theorem setPc_nMult : (setPc s v).nMult = s.nMult := rfl
@[simp] theorem setPc_zMult : (setPc s v).zMult = s.zMult := rfl
@[simp] theorem setPc_vMult : (setPc s v).vMult = s.vMult := rfl
@[simp] theorem setPc_procState : (setPc s v).procState = s.procState := rfl
@[simp] theorem setPc_inhibit : (setPc s v).inhibit = s.inhibit := rfl
@[simp] theorem setPc_noTrace : (setPc s v).noTrace = s.noTrace := rfl
@[simp] theorem setPc_stale : (setPc s v).stale = s.stale := rfl
@[simp] theorem setPc_writes : (setPc s v).writes = s.writes := rfl
@[simp] theorem setPc_draws : (setPc s v).draws = s.draws := rfl
@[simp] theorem setPc_mem : (setPc s v).mem = s.mem := rfl

end setPc

section advance

variable (len : BitVec 24) (s : State)

@[simp] theorem advance_cfg : (advance len s).cfg = s.cfg := rfl
@[simp] theorem advance_env : (advance len s).env = s.env := rfl
@[simp] theorem advance_er : (advance len s).er = s.er := rfl
@[simp] theorem advance_pc : (advance len s).pc = pcValue s.cfg.mode (s.pc + len) := rfl
@[simp] theorem advance_ccr : (advance len s).ccr = s.ccr := rfl
@[simp] theorem advance_exr : (advance len s).exr = s.exr := rfl
@[simp] theorem advance_mach : (advance len s).mach = s.mach := rfl
@[simp] theorem advance_macl : (advance len s).macl = s.macl := rfl
@[simp] theorem advance_nMult : (advance len s).nMult = s.nMult := rfl
@[simp] theorem advance_zMult : (advance len s).zMult = s.zMult := rfl
@[simp] theorem advance_vMult : (advance len s).vMult = s.vMult := rfl
@[simp] theorem advance_procState : (advance len s).procState = s.procState := rfl
@[simp] theorem advance_inhibit : (advance len s).inhibit = s.inhibit := rfl
@[simp] theorem advance_noTrace : (advance len s).noTrace = s.noTrace := rfl
@[simp] theorem advance_stale : (advance len s).stale = s.stale := rfl
@[simp] theorem advance_writes : (advance len s).writes = s.writes := rfl
@[simp] theorem advance_draws : (advance len s).draws = s.draws := rfl
@[simp] theorem advance_mem : (advance len s).mem = s.mem := rfl

end advance

section setCcr

variable (s : State) (c : Ccr)

@[simp] theorem setCcr_cfg : (setCcr s c).cfg = s.cfg := rfl
@[simp] theorem setCcr_env : (setCcr s c).env = s.env := rfl
@[simp] theorem setCcr_er : (setCcr s c).er = s.er := rfl
@[simp] theorem setCcr_pc : (setCcr s c).pc = s.pc := rfl
@[simp] theorem setCcr_ccr : (setCcr s c).ccr = c := rfl
@[simp] theorem setCcr_exr : (setCcr s c).exr = s.exr := rfl
@[simp] theorem setCcr_mach : (setCcr s c).mach = s.mach := rfl
@[simp] theorem setCcr_macl : (setCcr s c).macl = s.macl := rfl
@[simp] theorem setCcr_nMult : (setCcr s c).nMult = s.nMult := rfl
@[simp] theorem setCcr_zMult : (setCcr s c).zMult = s.zMult := rfl
@[simp] theorem setCcr_vMult : (setCcr s c).vMult = s.vMult := rfl
@[simp] theorem setCcr_procState : (setCcr s c).procState = s.procState := rfl
@[simp] theorem setCcr_inhibit : (setCcr s c).inhibit = s.inhibit := rfl
@[simp] theorem setCcr_noTrace : (setCcr s c).noTrace = s.noTrace := rfl
@[simp] theorem setCcr_stale : (setCcr s c).stale = s.stale := rfl
@[simp] theorem setCcr_writes : (setCcr s c).writes = s.writes := rfl
@[simp] theorem setCcr_draws : (setCcr s c).draws = s.draws := rfl
@[simp] theorem setCcr_mem : (setCcr s c).mem = s.mem := rfl

end setCcr

section setExr

variable (s : State) (x : Exr)

@[simp] theorem setExr_cfg : (setExr s x).cfg = s.cfg := rfl
@[simp] theorem setExr_env : (setExr s x).env = s.env := rfl
@[simp] theorem setExr_er : (setExr s x).er = s.er := rfl
@[simp] theorem setExr_pc : (setExr s x).pc = s.pc := rfl
@[simp] theorem setExr_ccr : (setExr s x).ccr = s.ccr := rfl
@[simp] theorem setExr_exr : (setExr s x).exr = x := rfl
@[simp] theorem setExr_mach : (setExr s x).mach = s.mach := rfl
@[simp] theorem setExr_macl : (setExr s x).macl = s.macl := rfl
@[simp] theorem setExr_nMult : (setExr s x).nMult = s.nMult := rfl
@[simp] theorem setExr_zMult : (setExr s x).zMult = s.zMult := rfl
@[simp] theorem setExr_vMult : (setExr s x).vMult = s.vMult := rfl
@[simp] theorem setExr_procState : (setExr s x).procState = s.procState := rfl
@[simp] theorem setExr_inhibit : (setExr s x).inhibit = s.inhibit := rfl
@[simp] theorem setExr_noTrace : (setExr s x).noTrace = s.noTrace := rfl
@[simp] theorem setExr_stale : (setExr s x).stale = s.stale := rfl
@[simp] theorem setExr_writes : (setExr s x).writes = s.writes := rfl
@[simp] theorem setExr_draws : (setExr s x).draws = s.draws := rfl
@[simp] theorem setExr_mem : (setExr s x).mem = s.mem := rfl

end setExr

section drawn

variable (s : State)

@[simp] theorem drawn_cfg : (drawn s).cfg = s.cfg := rfl
@[simp] theorem drawn_env : (drawn s).env = s.env := rfl
@[simp] theorem drawn_er : (drawn s).er = s.er := rfl
@[simp] theorem drawn_pc : (drawn s).pc = s.pc := rfl
@[simp] theorem drawn_ccr : (drawn s).ccr = s.ccr := rfl
@[simp] theorem drawn_exr : (drawn s).exr = s.exr := rfl
@[simp] theorem drawn_mach : (drawn s).mach = s.mach := rfl
@[simp] theorem drawn_macl : (drawn s).macl = s.macl := rfl
@[simp] theorem drawn_nMult : (drawn s).nMult = s.nMult := rfl
@[simp] theorem drawn_zMult : (drawn s).zMult = s.zMult := rfl
@[simp] theorem drawn_vMult : (drawn s).vMult = s.vMult := rfl
@[simp] theorem drawn_procState : (drawn s).procState = s.procState := rfl
@[simp] theorem drawn_inhibit : (drawn s).inhibit = s.inhibit := rfl
@[simp] theorem drawn_noTrace : (drawn s).noTrace = s.noTrace := rfl
@[simp] theorem drawn_stale : (drawn s).stale = s.stale := rfl
@[simp] theorem drawn_writes : (drawn s).writes = s.writes := rfl
@[simp] theorem drawn_draws : (drawn s).draws = s.draws + 1 := rfl
@[simp] theorem drawn_mem : (drawn s).mem = s.mem := rfl

end drawn

section environmentActs

variable (n : Nat) (s : State)

@[simp] theorem environmentActs_cfg : (environmentActs n s).cfg = s.cfg := rfl
@[simp] theorem environmentActs_er : (environmentActs n s).er = s.er := rfl
@[simp] theorem environmentActs_pc : (environmentActs n s).pc = s.pc := rfl
@[simp] theorem environmentActs_ccr : (environmentActs n s).ccr = s.ccr := rfl
@[simp] theorem environmentActs_exr : (environmentActs n s).exr = s.exr := rfl
@[simp] theorem environmentActs_mach : (environmentActs n s).mach = s.mach := rfl
@[simp] theorem environmentActs_macl : (environmentActs n s).macl = s.macl := rfl
@[simp] theorem environmentActs_nMult : (environmentActs n s).nMult = s.nMult := rfl
@[simp] theorem environmentActs_zMult : (environmentActs n s).zMult = s.zMult := rfl
@[simp] theorem environmentActs_vMult : (environmentActs n s).vMult = s.vMult := rfl
@[simp] theorem environmentActs_procState : (environmentActs n s).procState = s.procState := rfl
@[simp] theorem environmentActs_inhibit : (environmentActs n s).inhibit = s.inhibit := rfl
@[simp] theorem environmentActs_noTrace : (environmentActs n s).noTrace = s.noTrace := rfl
@[simp] theorem environmentActs_stale : (environmentActs n s).stale = s.stale := rfl
@[simp] theorem environmentActs_draws : (environmentActs n s).draws = s.draws := rfl

end environmentActs

section beforeCycles

variable (n : Nat) (s : State)

@[simp] theorem beforeCycles_cfg : (beforeCycles n s).cfg = s.cfg := rfl
@[simp] theorem beforeCycles_er : (beforeCycles n s).er = s.er := rfl
@[simp] theorem beforeCycles_pc : (beforeCycles n s).pc = s.pc := rfl
@[simp] theorem beforeCycles_ccr : (beforeCycles n s).ccr = s.ccr := rfl
@[simp] theorem beforeCycles_exr : (beforeCycles n s).exr = s.exr := rfl
@[simp] theorem beforeCycles_mach : (beforeCycles n s).mach = s.mach := rfl
@[simp] theorem beforeCycles_macl : (beforeCycles n s).macl = s.macl := rfl
@[simp] theorem beforeCycles_nMult : (beforeCycles n s).nMult = s.nMult := rfl
@[simp] theorem beforeCycles_zMult : (beforeCycles n s).zMult = s.zMult := rfl
@[simp] theorem beforeCycles_vMult : (beforeCycles n s).vMult = s.vMult := rfl
@[simp] theorem beforeCycles_procState : (beforeCycles n s).procState = s.procState := rfl
@[simp] theorem beforeCycles_inhibit : (beforeCycles n s).inhibit = s.inhibit := rfl
@[simp] theorem beforeCycles_noTrace : (beforeCycles n s).noTrace = s.noTrace := rfl
@[simp] theorem beforeCycles_stale : (beforeCycles n s).stale = s.stale := rfl
@[simp] theorem beforeCycles_draws : (beforeCycles n s).draws = s.draws := rfl

end beforeCycles

section beforeCycle

variable (s : State)

@[simp] theorem beforeCycle_cfg : (beforeCycle s).cfg = s.cfg := rfl
@[simp] theorem beforeCycle_er : (beforeCycle s).er = s.er := rfl
@[simp] theorem beforeCycle_pc : (beforeCycle s).pc = s.pc := rfl
@[simp] theorem beforeCycle_ccr : (beforeCycle s).ccr = s.ccr := rfl
@[simp] theorem beforeCycle_exr : (beforeCycle s).exr = s.exr := rfl
@[simp] theorem beforeCycle_mach : (beforeCycle s).mach = s.mach := rfl
@[simp] theorem beforeCycle_macl : (beforeCycle s).macl = s.macl := rfl
@[simp] theorem beforeCycle_nMult : (beforeCycle s).nMult = s.nMult := rfl
@[simp] theorem beforeCycle_zMult : (beforeCycle s).zMult = s.zMult := rfl
@[simp] theorem beforeCycle_vMult : (beforeCycle s).vMult = s.vMult := rfl
@[simp] theorem beforeCycle_procState : (beforeCycle s).procState = s.procState := rfl
@[simp] theorem beforeCycle_inhibit : (beforeCycle s).inhibit = s.inhibit := rfl
@[simp] theorem beforeCycle_noTrace : (beforeCycle s).noTrace = s.noTrace := rfl
@[simp] theorem beforeCycle_stale : (beforeCycle s).stale = s.stale := rfl
@[simp] theorem beforeCycle_draws : (beforeCycle s).draws = s.draws := rfl

end beforeCycle

section write8

variable (s : State) (a : Long) (v : Byte)

@[simp] theorem write8_cfg : (write8 s a v).cfg = s.cfg := rfl
@[simp] theorem write8_er : (write8 s a v).er = s.er := rfl
@[simp] theorem write8_pc : (write8 s a v).pc = s.pc := rfl
@[simp] theorem write8_ccr : (write8 s a v).ccr = s.ccr := rfl
@[simp] theorem write8_exr : (write8 s a v).exr = s.exr := rfl
@[simp] theorem write8_mach : (write8 s a v).mach = s.mach := rfl
@[simp] theorem write8_macl : (write8 s a v).macl = s.macl := rfl
@[simp] theorem write8_nMult : (write8 s a v).nMult = s.nMult := rfl
@[simp] theorem write8_zMult : (write8 s a v).zMult = s.zMult := rfl
@[simp] theorem write8_vMult : (write8 s a v).vMult = s.vMult := rfl
@[simp] theorem write8_procState : (write8 s a v).procState = s.procState := rfl
@[simp] theorem write8_inhibit : (write8 s a v).inhibit = s.inhibit := rfl
@[simp] theorem write8_noTrace : (write8 s a v).noTrace = s.noTrace := rfl
@[simp] theorem write8_stale : (write8 s a v).stale = s.stale := rfl
@[simp] theorem write8_draws : (write8 s a v).draws = s.draws := rfl

end write8

section write16

variable (s : State) (a : Long) (v : Half)

@[simp] theorem write16_cfg : (write16 s a v).cfg = s.cfg := rfl
@[simp] theorem write16_er : (write16 s a v).er = s.er := rfl
@[simp] theorem write16_pc : (write16 s a v).pc = s.pc := rfl
@[simp] theorem write16_ccr : (write16 s a v).ccr = s.ccr := rfl
@[simp] theorem write16_exr : (write16 s a v).exr = s.exr := rfl
@[simp] theorem write16_mach : (write16 s a v).mach = s.mach := rfl
@[simp] theorem write16_macl : (write16 s a v).macl = s.macl := rfl
@[simp] theorem write16_nMult : (write16 s a v).nMult = s.nMult := rfl
@[simp] theorem write16_zMult : (write16 s a v).zMult = s.zMult := rfl
@[simp] theorem write16_vMult : (write16 s a v).vMult = s.vMult := rfl
@[simp] theorem write16_procState : (write16 s a v).procState = s.procState := rfl
@[simp] theorem write16_inhibit : (write16 s a v).inhibit = s.inhibit := rfl
@[simp] theorem write16_noTrace : (write16 s a v).noTrace = s.noTrace := rfl
@[simp] theorem write16_stale : (write16 s a v).stale = s.stale := rfl
@[simp] theorem write16_draws : (write16 s a v).draws = s.draws := rfl

end write16

section write32

variable (s : State) (a : Long) (v : Long)

@[simp] theorem write32_cfg : (write32 s a v).cfg = s.cfg := rfl
@[simp] theorem write32_er : (write32 s a v).er = s.er := rfl
@[simp] theorem write32_pc : (write32 s a v).pc = s.pc := rfl
@[simp] theorem write32_ccr : (write32 s a v).ccr = s.ccr := rfl
@[simp] theorem write32_exr : (write32 s a v).exr = s.exr := rfl
@[simp] theorem write32_mach : (write32 s a v).mach = s.mach := rfl
@[simp] theorem write32_macl : (write32 s a v).macl = s.macl := rfl
@[simp] theorem write32_nMult : (write32 s a v).nMult = s.nMult := rfl
@[simp] theorem write32_zMult : (write32 s a v).zMult = s.zMult := rfl
@[simp] theorem write32_vMult : (write32 s a v).vMult = s.vMult := rfl
@[simp] theorem write32_procState : (write32 s a v).procState = s.procState := rfl
@[simp] theorem write32_inhibit : (write32 s a v).inhibit = s.inhibit := rfl
@[simp] theorem write32_noTrace : (write32 s a v).noTrace = s.noTrace := rfl
@[simp] theorem write32_stale : (write32 s a v).stale = s.stale := rfl
@[simp] theorem write32_draws : (write32 s a v).draws = s.draws := rfl

end write32

section lowerSp

variable (n : Long) (s : State)

@[simp] theorem lowerSp_cfg : (lowerSp n s).cfg = s.cfg := rfl
@[simp] theorem lowerSp_env : (lowerSp n s).env = s.env := rfl
@[simp] theorem lowerSp_pc : (lowerSp n s).pc = s.pc := rfl
@[simp] theorem lowerSp_ccr : (lowerSp n s).ccr = s.ccr := rfl
@[simp] theorem lowerSp_exr : (lowerSp n s).exr = s.exr := rfl
@[simp] theorem lowerSp_mach : (lowerSp n s).mach = s.mach := rfl
@[simp] theorem lowerSp_macl : (lowerSp n s).macl = s.macl := rfl
@[simp] theorem lowerSp_nMult : (lowerSp n s).nMult = s.nMult := rfl
@[simp] theorem lowerSp_zMult : (lowerSp n s).zMult = s.zMult := rfl
@[simp] theorem lowerSp_vMult : (lowerSp n s).vMult = s.vMult := rfl
@[simp] theorem lowerSp_procState : (lowerSp n s).procState = s.procState := rfl
@[simp] theorem lowerSp_inhibit : (lowerSp n s).inhibit = s.inhibit := rfl
@[simp] theorem lowerSp_noTrace : (lowerSp n s).noTrace = s.noTrace := rfl
@[simp] theorem lowerSp_stale : (lowerSp n s).stale = s.stale := rfl
@[simp] theorem lowerSp_writes : (lowerSp n s).writes = s.writes := rfl
@[simp] theorem lowerSp_draws : (lowerSp n s).draws = s.draws := rfl
@[simp] theorem lowerSp_mem : (lowerSp n s).mem = s.mem := rfl

end lowerSp

section raiseSp

variable (n : Long) (s : State)

@[simp] theorem raiseSp_cfg : (raiseSp n s).cfg = s.cfg := rfl
@[simp] theorem raiseSp_env : (raiseSp n s).env = s.env := rfl
@[simp] theorem raiseSp_pc : (raiseSp n s).pc = s.pc := rfl
@[simp] theorem raiseSp_ccr : (raiseSp n s).ccr = s.ccr := rfl
@[simp] theorem raiseSp_exr : (raiseSp n s).exr = s.exr := rfl
@[simp] theorem raiseSp_mach : (raiseSp n s).mach = s.mach := rfl
@[simp] theorem raiseSp_macl : (raiseSp n s).macl = s.macl := rfl
@[simp] theorem raiseSp_nMult : (raiseSp n s).nMult = s.nMult := rfl
@[simp] theorem raiseSp_zMult : (raiseSp n s).zMult = s.zMult := rfl
@[simp] theorem raiseSp_vMult : (raiseSp n s).vMult = s.vMult := rfl
@[simp] theorem raiseSp_procState : (raiseSp n s).procState = s.procState := rfl
@[simp] theorem raiseSp_inhibit : (raiseSp n s).inhibit = s.inhibit := rfl
@[simp] theorem raiseSp_noTrace : (raiseSp n s).noTrace = s.noTrace := rfl
@[simp] theorem raiseSp_stale : (raiseSp n s).stale = s.stale := rfl
@[simp] theorem raiseSp_writes : (raiseSp n s).writes = s.writes := rfl
@[simp] theorem raiseSp_draws : (raiseSp n s).draws = s.draws := rfl
@[simp] theorem raiseSp_mem : (raiseSp n s).mem = s.mem := rfl

end raiseSp

section pushWord

variable (v : Half) (s : State)

@[simp] theorem pushWord_cfg : (pushWord v s).cfg = s.cfg := rfl
@[simp] theorem pushWord_pc : (pushWord v s).pc = s.pc := rfl
@[simp] theorem pushWord_ccr : (pushWord v s).ccr = s.ccr := rfl
@[simp] theorem pushWord_exr : (pushWord v s).exr = s.exr := rfl
@[simp] theorem pushWord_mach : (pushWord v s).mach = s.mach := rfl
@[simp] theorem pushWord_macl : (pushWord v s).macl = s.macl := rfl
@[simp] theorem pushWord_nMult : (pushWord v s).nMult = s.nMult := rfl
@[simp] theorem pushWord_zMult : (pushWord v s).zMult = s.zMult := rfl
@[simp] theorem pushWord_vMult : (pushWord v s).vMult = s.vMult := rfl
@[simp] theorem pushWord_procState : (pushWord v s).procState = s.procState := rfl
@[simp] theorem pushWord_inhibit : (pushWord v s).inhibit = s.inhibit := rfl
@[simp] theorem pushWord_noTrace : (pushWord v s).noTrace = s.noTrace := rfl
@[simp] theorem pushWord_stale : (pushWord v s).stale = s.stale := rfl
@[simp] theorem pushWord_draws : (pushWord v s).draws = s.draws := rfl

end pushWord

section pushLong

variable (v : Long) (s : State)

@[simp] theorem pushLong_cfg : (pushLong v s).cfg = s.cfg := rfl
@[simp] theorem pushLong_pc : (pushLong v s).pc = s.pc := rfl
@[simp] theorem pushLong_ccr : (pushLong v s).ccr = s.ccr := rfl
@[simp] theorem pushLong_exr : (pushLong v s).exr = s.exr := rfl
@[simp] theorem pushLong_mach : (pushLong v s).mach = s.mach := rfl
@[simp] theorem pushLong_macl : (pushLong v s).macl = s.macl := rfl
@[simp] theorem pushLong_nMult : (pushLong v s).nMult = s.nMult := rfl
@[simp] theorem pushLong_zMult : (pushLong v s).zMult = s.zMult := rfl
@[simp] theorem pushLong_vMult : (pushLong v s).vMult = s.vMult := rfl
@[simp] theorem pushLong_procState : (pushLong v s).procState = s.procState := rfl
@[simp] theorem pushLong_inhibit : (pushLong v s).inhibit = s.inhibit := rfl
@[simp] theorem pushLong_noTrace : (pushLong v s).noTrace = s.noTrace := rfl
@[simp] theorem pushLong_stale : (pushLong v s).stale = s.stale := rfl
@[simp] theorem pushLong_draws : (pushLong v s).draws = s.draws := rfl

end pushLong

section setReg8

variable (s : State) (r : Reg8) (v : Byte)

@[simp] theorem setReg8_cfg : (setReg8 s r v).cfg = s.cfg := by cases r <;> rfl
@[simp] theorem setReg8_env : (setReg8 s r v).env = s.env := by cases r <;> rfl
@[simp] theorem setReg8_pc : (setReg8 s r v).pc = s.pc := by cases r <;> rfl
@[simp] theorem setReg8_ccr : (setReg8 s r v).ccr = s.ccr := by cases r <;> rfl
@[simp] theorem setReg8_exr : (setReg8 s r v).exr = s.exr := by cases r <;> rfl
@[simp] theorem setReg8_mach : (setReg8 s r v).mach = s.mach := by cases r <;> rfl
@[simp] theorem setReg8_macl : (setReg8 s r v).macl = s.macl := by cases r <;> rfl
@[simp] theorem setReg8_nMult : (setReg8 s r v).nMult = s.nMult := by cases r <;> rfl
@[simp] theorem setReg8_zMult : (setReg8 s r v).zMult = s.zMult := by cases r <;> rfl
@[simp] theorem setReg8_vMult : (setReg8 s r v).vMult = s.vMult := by cases r <;> rfl
@[simp] theorem setReg8_procState : (setReg8 s r v).procState = s.procState := by cases r <;> rfl
@[simp] theorem setReg8_inhibit : (setReg8 s r v).inhibit = s.inhibit := by cases r <;> rfl
@[simp] theorem setReg8_noTrace : (setReg8 s r v).noTrace = s.noTrace := by cases r <;> rfl
@[simp] theorem setReg8_stale : (setReg8 s r v).stale = s.stale := by cases r <;> rfl
@[simp] theorem setReg8_writes : (setReg8 s r v).writes = s.writes := by cases r <;> rfl
@[simp] theorem setReg8_draws : (setReg8 s r v).draws = s.draws := by cases r <;> rfl
@[simp] theorem setReg8_mem : (setReg8 s r v).mem = s.mem := by cases r <;> rfl

end setReg8

section setReg16

variable (s : State) (r : Reg16) (v : Half)

@[simp] theorem setReg16_cfg : (setReg16 s r v).cfg = s.cfg := by cases r <;> rfl
@[simp] theorem setReg16_env : (setReg16 s r v).env = s.env := by cases r <;> rfl
@[simp] theorem setReg16_pc : (setReg16 s r v).pc = s.pc := by cases r <;> rfl
@[simp] theorem setReg16_ccr : (setReg16 s r v).ccr = s.ccr := by cases r <;> rfl
@[simp] theorem setReg16_exr : (setReg16 s r v).exr = s.exr := by cases r <;> rfl
@[simp] theorem setReg16_mach : (setReg16 s r v).mach = s.mach := by cases r <;> rfl
@[simp] theorem setReg16_macl : (setReg16 s r v).macl = s.macl := by cases r <;> rfl
@[simp] theorem setReg16_nMult : (setReg16 s r v).nMult = s.nMult := by cases r <;> rfl
@[simp] theorem setReg16_zMult : (setReg16 s r v).zMult = s.zMult := by cases r <;> rfl
@[simp] theorem setReg16_vMult : (setReg16 s r v).vMult = s.vMult := by cases r <;> rfl
@[simp] theorem setReg16_procState : (setReg16 s r v).procState = s.procState := by cases r <;> rfl
@[simp] theorem setReg16_inhibit : (setReg16 s r v).inhibit = s.inhibit := by cases r <;> rfl
@[simp] theorem setReg16_noTrace : (setReg16 s r v).noTrace = s.noTrace := by cases r <;> rfl
@[simp] theorem setReg16_stale : (setReg16 s r v).stale = s.stale := by cases r <;> rfl
@[simp] theorem setReg16_writes : (setReg16 s r v).writes = s.writes := by cases r <;> rfl
@[simp] theorem setReg16_draws : (setReg16 s r v).draws = s.draws := by cases r <;> rfl
@[simp] theorem setReg16_mem : (setReg16 s r v).mem = s.mem := by cases r <;> rfl

end setReg16

section put

variable {w : Nat} (rd : Reg w) (v : BitVec w) (s : State)

@[simp] theorem Reg.put_cfg : (rd.put v s).cfg = s.cfg := by cases rd <;> simp [Reg.put]
@[simp] theorem Reg.put_env : (rd.put v s).env = s.env := by cases rd <;> simp [Reg.put]
@[simp] theorem Reg.put_pc : (rd.put v s).pc = s.pc := by cases rd <;> simp [Reg.put]
@[simp] theorem Reg.put_ccr : (rd.put v s).ccr = s.ccr := by cases rd <;> simp [Reg.put]
@[simp] theorem Reg.put_exr : (rd.put v s).exr = s.exr := by cases rd <;> simp [Reg.put]
@[simp] theorem Reg.put_mach : (rd.put v s).mach = s.mach := by cases rd <;> simp [Reg.put]
@[simp] theorem Reg.put_macl : (rd.put v s).macl = s.macl := by cases rd <;> simp [Reg.put]
@[simp] theorem Reg.put_nMult : (rd.put v s).nMult = s.nMult := by cases rd <;> simp [Reg.put]
@[simp] theorem Reg.put_zMult : (rd.put v s).zMult = s.zMult := by cases rd <;> simp [Reg.put]
@[simp] theorem Reg.put_vMult : (rd.put v s).vMult = s.vMult := by cases rd <;> simp [Reg.put]
@[simp] theorem Reg.put_procState : (rd.put v s).procState = s.procState := by cases rd <;> simp [Reg.put]
@[simp] theorem Reg.put_inhibit : (rd.put v s).inhibit = s.inhibit := by cases rd <;> simp [Reg.put]
@[simp] theorem Reg.put_noTrace : (rd.put v s).noTrace = s.noTrace := by cases rd <;> simp [Reg.put]
@[simp] theorem Reg.put_stale : (rd.put v s).stale = s.stale := by cases rd <;> simp [Reg.put]
@[simp] theorem Reg.put_writes : (rd.put v s).writes = s.writes := by cases rd <;> simp [Reg.put]
@[simp] theorem Reg.put_draws : (rd.put v s).draws = s.draws := by cases rd <;> simp [Reg.put]
@[simp] theorem Reg.put_mem : (rd.put v s).mem = s.mem := by cases rd <;> simp [Reg.put]

end put

section store

variable {w : Nat} (rs : Reg w) (a : Long) (v : BitVec w) (s : State)

@[simp] theorem Reg.store_cfg : (rs.store a v s).cfg = s.cfg := by cases rs <;> rfl
@[simp] theorem Reg.store_er : (rs.store a v s).er = s.er := by cases rs <;> rfl
@[simp] theorem Reg.store_pc : (rs.store a v s).pc = s.pc := by cases rs <;> rfl
@[simp] theorem Reg.store_ccr : (rs.store a v s).ccr = s.ccr := by cases rs <;> rfl
@[simp] theorem Reg.store_exr : (rs.store a v s).exr = s.exr := by cases rs <;> rfl
@[simp] theorem Reg.store_mach : (rs.store a v s).mach = s.mach := by cases rs <;> rfl
@[simp] theorem Reg.store_macl : (rs.store a v s).macl = s.macl := by cases rs <;> rfl
@[simp] theorem Reg.store_nMult : (rs.store a v s).nMult = s.nMult := by cases rs <;> rfl
@[simp] theorem Reg.store_zMult : (rs.store a v s).zMult = s.zMult := by cases rs <;> rfl
@[simp] theorem Reg.store_vMult : (rs.store a v s).vMult = s.vMult := by cases rs <;> rfl
@[simp] theorem Reg.store_procState : (rs.store a v s).procState = s.procState := by cases rs <;> rfl
@[simp] theorem Reg.store_inhibit : (rs.store a v s).inhibit = s.inhibit := by cases rs <;> rfl
@[simp] theorem Reg.store_noTrace : (rs.store a v s).noTrace = s.noTrace := by cases rs <;> rfl
@[simp] theorem Reg.store_stale : (rs.store a v s).stale = s.stale := by cases rs <;> rfl
@[simp] theorem Reg.store_draws : (rs.store a v s).draws = s.draws := by cases rs <;> rfl

end store

section update

variable (ea : Ea) (sz : Long) (s : State)

@[simp] theorem Ea.update_cfg : (ea.update sz s).cfg = s.cfg := by cases ea <;> rfl
@[simp] theorem Ea.update_env : (ea.update sz s).env = s.env := by cases ea <;> rfl
@[simp] theorem Ea.update_pc : (ea.update sz s).pc = s.pc := by cases ea <;> rfl
@[simp] theorem Ea.update_ccr : (ea.update sz s).ccr = s.ccr := by cases ea <;> rfl
@[simp] theorem Ea.update_exr : (ea.update sz s).exr = s.exr := by cases ea <;> rfl
@[simp] theorem Ea.update_mach : (ea.update sz s).mach = s.mach := by cases ea <;> rfl
@[simp] theorem Ea.update_macl : (ea.update sz s).macl = s.macl := by cases ea <;> rfl
@[simp] theorem Ea.update_nMult : (ea.update sz s).nMult = s.nMult := by cases ea <;> rfl
@[simp] theorem Ea.update_zMult : (ea.update sz s).zMult = s.zMult := by cases ea <;> rfl
@[simp] theorem Ea.update_vMult : (ea.update sz s).vMult = s.vMult := by cases ea <;> rfl
@[simp] theorem Ea.update_procState : (ea.update sz s).procState = s.procState := by cases ea <;> rfl
@[simp] theorem Ea.update_inhibit : (ea.update sz s).inhibit = s.inhibit := by cases ea <;> rfl
@[simp] theorem Ea.update_noTrace : (ea.update sz s).noTrace = s.noTrace := by cases ea <;> rfl
@[simp] theorem Ea.update_stale : (ea.update sz s).stale = s.stale := by cases ea <;> rfl
@[simp] theorem Ea.update_writes : (ea.update sz s).writes = s.writes := by cases ea <;> rfl
@[simp] theorem Ea.update_draws : (ea.update sz s).draws = s.draws := by cases ea <;> rfl
@[simp] theorem Ea.update_mem : (ea.update sz s).mem = s.mem := by cases ea <;> rfl

end update

end Sys2Proof.Machine
end

