-- ==== Sys2Proof/Laws/Registers.lean ====
section
/-! SUPPORT. Reading a register after writing one (R20 to R22, R104), for every width, and what writing it leaves. -/

namespace Sys2Proof.Machine

/-! ### ERn -/

@[simp] theorem getER_setER_same (s : State) (n : RegNum) (v : Long) : getER (setER s n v) n = v := by
  simp [getER, setER]

theorem getER_setER_ne (s : State) {m n : RegNum} (v : Long) (h : m ≠ n) : getER (setER s n v) m = getER s m := by
  have hv : n.val ≠ m.val := fun e => h (Fin.ext e.symm)
  simp [getER, setER, hv]

theorem getER_setER (s : State) (m n : RegNum) (v : Long) :
    getER (setER s n v) m = if m = n then v else getER s m := by
  split
  · subst_vars; simp
  · exact getER_setER_ne s v ‹_›

@[simp] theorem getER_setPc (s : State) (v : BitVec 24) (n : RegNum) : getER (setPc s v) n = getER s n := rfl
@[simp] theorem getER_advance (len : BitVec 24) (s : State) (n : RegNum) : getER (advance len s) n = getER s n := rfl
@[simp] theorem getER_setCcr (s : State) (c : Ccr) (n : RegNum) : getER (setCcr s c) n = getER s n := rfl
@[simp] theorem getER_setExr (s : State) (x : Exr) (n : RegNum) : getER (setExr s x) n = getER s n := rfl
@[simp] theorem getER_drawn (s : State) (n : RegNum) : getER (drawn s) n = getER s n := rfl
@[simp] theorem getER_beforeCycles (k : Nat) (s : State) (n : RegNum) : getER (beforeCycles k s) n = getER s n := rfl
@[simp] theorem getER_beforeCycle (s : State) (n : RegNum) : getER (beforeCycle s) n = getER s n := rfl
@[simp] theorem getER_write8 (s : State) (a : Long) (v : Byte) (n : RegNum) : getER (write8 s a v) n = getER s n := rfl
@[simp] theorem getER_write16 (s : State) (a : Long) (v : Half) (n : RegNum) : getER (write16 s a v) n = getER s n := rfl
@[simp] theorem getER_write32 (s : State) (a : Long) (v : Long) (n : RegNum) : getER (write32 s a v) n = getER s n := rfl
@[simp] theorem getER_store {w : Nat} (rs : Reg w) (a : Long) (v : BitVec w) (s : State) (n : RegNum) :
    getER (rs.store a v s) n = getER s n := by cases rs <;> rfl

/-- States with the same ERs read the same through every register name. -/
theorem get_congr {w : Nat} (r : Reg w) {s t : State} (h : t.er = s.er) : r.get t = r.get s := by
  cases r with
  | b r => cases r <;> simp [Reg.get, getReg8, getER, h]
  | w r => cases r <;> simp [Reg.get, getReg16, getER, h]
  | l n => simp [Reg.get, getER, h]

theorem getReg8_congr (r : Reg8) {s t : State} (h : t.er = s.er) : getReg8 t r = getReg8 s r := get_congr (.b r) h

theorem getReg16_congr (r : Reg16) {s t : State} (h : t.er = s.er) : getReg16 t r = getReg16 s r := get_congr (.w r) h

theorem getER_congr (n : RegNum) {s t : State} (h : t.er = s.er) : getER t n = getER s n := get_congr (.l n) h

theorem sameRegisters_of_er {s t : State} (h : t.er = s.er) : SameRegisters s t := fun n => getER_congr n h

/-! ### Slices of bits -/

/-- A slice inside the lower part. -/
theorem slice_low {a b : Nat} (h : BitVec a) (l : BitVec b) {s n : Nat} (hs : s + n ≤ b) :
    (h ++ l).extractLsb' s n = l.extractLsb' s n := by
  apply BitVec.eq_of_getLsbD_eq; intro i hi
  rw [BitVec.getLsbD_extractLsb', BitVec.getLsbD_append, BitVec.getLsbD_extractLsb']
  have : s + i < b := by omega
  simp [this]

/-- A slice inside the upper part. -/
theorem slice_high {a b : Nat} (h : BitVec a) (l : BitVec b) {s n : Nat} (hs : b ≤ s) :
    (h ++ l).extractLsb' s n = h.extractLsb' (s - b) n := by
  apply BitVec.eq_of_getLsbD_eq; intro i hi
  rw [BitVec.getLsbD_extractLsb', BitVec.getLsbD_append, BitVec.getLsbD_extractLsb']
  have : ¬ s + i < b := by omega
  simp [this, show s + i - b = s - b + i by omega]

/-- A slice of a slice. -/
theorem slice_slice {n : Nat} (v : BitVec n) {a b c d : Nat} (h : c + d ≤ b) :
    (v.extractLsb' a b).extractLsb' c d = v.extractLsb' (a + c) d := by
  apply BitVec.eq_of_getLsbD_eq; intro i hi
  simp only [BitVec.getLsbD_extractLsb']
  have : c + i < b := by omega
  simp [this, Nat.add_assoc]

/-! ### Bytes and words of a register -/

@[simp] theorem getReg8_setReg8_same (s : State) (r : Reg8) (v : Byte) : getReg8 (setReg8 s r v) r = v := by
  cases r with
  | h n =>
    simp only [getReg8, setReg8, getER_setER_same]
    rw [slice_high _ _ (by decide), slice_low _ _ (by decide)]; simp
  | l n =>
    simp only [getReg8, setReg8, getER_setER_same]
    rw [slice_low _ _ (by decide)]; simp

theorem getReg8_setReg8_ne (s : State) {q r : Reg8} (v : Byte) (h : q ≠ r) : getReg8 (setReg8 s r v) q = getReg8 s q := by
  rcases r with n | n <;> rcases q with m | m <;> simp only [getReg8, setReg8, getER_setER] <;> split <;>
    first
      | rfl
      | (subst_vars; exact absurd rfl h)
      | (subst_vars; rw [slice_low _ _ (by decide), slice_slice _ (by decide)])
      | (subst_vars; rw [slice_high _ _ (by decide), slice_slice _ (by decide)])

theorem getReg16_e_setReg8 (s : State) (r : Reg8) (v : Byte) (n : RegNum) :
    getReg16 (setReg8 s r v) (.e n) = getReg16 s (.e n) := by
  rcases r with m | m <;> simp only [getReg16, setReg8, getER_setER] <;> split <;>
    first
      | rfl
      | (subst_vars; rw [slice_high _ _ (by decide), slice_high _ _ (by decide), slice_slice _ (by decide)])
      | (subst_vars; rw [slice_high _ _ (by decide), slice_slice _ (by decide)])

@[simp] theorem getReg16_setReg16_same (s : State) (r : Reg16) (v : Half) : getReg16 (setReg16 s r v) r = v := by
  cases r with
  | e n =>
    simp only [getReg16, setReg16, getER_setER_same]
    rw [slice_high _ _ (by decide)]; simp
  | r n =>
    simp only [getReg16, setReg16, getER_setER_same]
    rw [slice_low _ _ (by decide)]; simp

theorem getReg16_setReg16_ne (s : State) {q r : Reg16} (v : Half) (h : q ≠ r) :
    getReg16 (setReg16 s r v) q = getReg16 s q := by
  rcases r with n | n <;> rcases q with m | m <;> simp only [getReg16, setReg16, getER_setER] <;> split <;>
    first
      | rfl
      | (subst_vars; exact absurd rfl h)
      | (subst_vars; rw [slice_low _ _ (by decide), slice_slice _ (by decide)])
      | (subst_vars; rw [slice_high _ _ (by decide), slice_slice _ (by decide)])

/-- What writing a register does (R21, R22): it then reads as written, and what does not overlap it reads as before. -/
theorem put_spec {w : Nat} (rd : Reg w) (v : BitVec w) (s : State) : rd.get (rd.put v s) = v ∧ rd.Others s (rd.put v s) := by
  cases rd with
  | b r => exact ⟨getReg8_setReg8_same s r v, fun q h => getReg8_setReg8_ne s v h, getReg16_e_setReg8 s r v⟩
  | w r => exact ⟨getReg16_setReg16_same s r v, fun q h => getReg16_setReg16_ne s v h⟩
  | l n => exact ⟨getER_setER_same s n v, fun m h => getER_setER_ne s v h⟩

/-- `Others` speaks of the ERs only. -/
theorem others_congr {w : Nat} (rd : Reg w) {s t u : State} (h : u.er = t.er) (o : rd.Others s t) : rd.Others s u := by
  cases rd with
  | b r =>
    exact ⟨fun q hq => (getReg8_congr q h).trans (o.1 q hq), fun n => (getReg16_congr (.e n) h).trans (o.2 n)⟩
  | w r => exact fun q hq => (getReg16_congr q h).trans (o q hq)
  | l n => exact fun m hm => (getER_congr m h).trans (o m hm)

end Sys2Proof.Machine
end

