-- ==== Sys2Proof/Laws/Memory.lean ====
section
/-! SUPPORT. The laws of memory: a read after a write (R63 to R66), what a write leaves, and the canonical form, which every
memory operation keeps. -/

namespace Sys2Proof.Machine

/-! ### One byte -/

theorem readByte_eraseCell (m : Memory) (a k : Nat) :
    readByte (eraseCell m a) k = if k = a then unlistedByte else readByte m k := by
  induction m with
  | nil => simp [eraseCell, readByte]
  | cons c m ih =>
    obtain ⟨x, v⟩ := c
    simp only [eraseCell] at ih
    by_cases hx : x = a
    · subst hx
      simp only [eraseCell, List.filter_cons, bne_self_eq_false, Bool.false_eq_true, if_false, readByte, ih]
      split
      · rfl
      · simp [show x ≠ k from fun e => ‹¬k = x› e.symm]
    · simp only [eraseCell, List.filter_cons, bne_iff_ne, ne_eq, hx, not_false_eq_true, if_true, readByte, ih]
      split
      · subst_vars; simp [hx]
      · rfl

theorem readByte_insertCell (m : Memory) (a k : Nat) (v : Byte) (h : ∀ c ∈ m, c.1 ≠ a) :
    readByte (insertCell m a v) k = if k = a then v else readByte m k := by
  induction m with
  | nil => simp [insertCell, readByte, eq_comm]
  | cons c m ih =>
    obtain ⟨x, u⟩ := c
    have hx : x ≠ a := h (x, u) (by simp)
    simp only [insertCell]
    split
    · simp only [readByte, eq_comm (a := a)]
    · simp only [readByte, ih fun c hc => h c (List.mem_cons_of_mem _ hc)]
      split
      · subst_vars; simp [hx]
      · rfl

theorem eraseCell_keys (m : Memory) (a : Nat) : ∀ c ∈ eraseCell m a, c.1 ≠ a := by
  intro c hc
  simpa using (List.mem_filter.mp hc).2

/-- A byte reads as written, every other one as before. -/
theorem readByte_writeByte (m : Memory) (a k : Nat) (v : Byte) :
    readByte (writeByte m a v) k = if k = a then v else readByte m k := by
  unfold writeByte
  split
  · subst_vars; exact readByte_eraseCell m a k
  · rw [readByte_insertCell _ _ _ _ (eraseCell_keys m a), readByte_eraseCell]
    split <;> rfl

@[simp] theorem readByte_writeByte_same (m : Memory) (a : Nat) (v : Byte) : readByte (writeByte m a v) a = v := by
  simp [readByte_writeByte]

theorem readByte_writeByte_ne (m : Memory) {a k : Nat} (v : Byte) (h : k ≠ a) :
    readByte (writeByte m a v) k = readByte m k := by
  simp [readByte_writeByte, h]

/-! ### The canonical form -/

theorem sortedFrom_some (b : Nat) (m : Memory) :
    Memory.sortedFrom (some b) m = true ↔ (∀ c ∈ m, b < c.1) ∧ Memory.sortedFrom none m = true := by
  induction m generalizing b with
  | nil => simp [Memory.sortedFrom]
  | cons c m ih =>
    obtain ⟨x, v⟩ := c
    simp only [Memory.sortedFrom, Bool.and_eq_true, decide_eq_true_eq, List.mem_cons, forall_eq_or_imp]
    refine ⟨fun ⟨h1, h2⟩ => ⟨⟨h1, fun c hc => ?_⟩, h2⟩, fun ⟨⟨h1, _⟩, h2⟩ => ⟨h1, h2⟩⟩
    exact lt_trans h1 (((ih x).mp h2).1 c hc)

theorem sortedFrom_none_cons (x : Nat) (v : Byte) (m : Memory) :
    Memory.sortedFrom none ((x, v) :: m) = true ↔ (∀ c ∈ m, x < c.1) ∧ Memory.sortedFrom none m = true := by
  rw [← sortedFrom_some]; rfl

theorem eraseCell_sorted (m : Memory) (a : Nat) (h : Memory.sortedFrom none m = true) :
    Memory.sortedFrom none (eraseCell m a) = true := by
  induction m with
  | nil => rfl
  | cons c m ih =>
    obtain ⟨x, v⟩ := c
    obtain ⟨h1, h2⟩ := (sortedFrom_none_cons x v m).mp h
    have ih := ih h2
    simp only [eraseCell, List.filter_cons] at ih ⊢
    split
    · exact (sortedFrom_none_cons _ _ _).mpr ⟨fun c hc => h1 c (List.mem_filter.mp hc).1, ih⟩
    · exact ih

theorem insertCell_mem (m : Memory) (a : Nat) (v : Byte) (c : Host.Cell) (h : c ∈ insertCell m a v) : c = (a, v) ∨ c ∈ m := by
  induction m with
  | nil => exact Or.inl (by simpa [insertCell] using h)
  | cons d m ih =>
    simp only [insertCell] at h
    split at h
    · simpa using h
    · rcases List.mem_cons.mp h with h | h
      · simp [h]
      · rcases ih h with h | h <;> simp [h]

theorem insertCell_sorted (m : Memory) (a : Nat) (v : Byte) (h : Memory.sortedFrom none m = true) (hn : ∀ c ∈ m, c.1 ≠ a) :
    Memory.sortedFrom none (insertCell m a v) = true := by
  induction m with
  | nil => rfl
  | cons c m ih =>
    obtain ⟨x, u⟩ := c
    obtain ⟨h1, h2⟩ := (sortedFrom_none_cons x u m).mp h
    have hx : x ≠ a := hn (x, u) (by simp)
    simp only [insertCell]
    split
    · rename_i hlt
      refine (sortedFrom_none_cons _ _ _).mpr ⟨fun c hc => ?_, h⟩
      rcases List.mem_cons.mp hc with rfl | hc
      · exact hlt
      · exact lt_trans hlt (h1 c hc)
    · refine (sortedFrom_none_cons _ _ _).mpr ⟨fun c hc => ?_, ih h2 fun c hc => hn c (List.mem_cons_of_mem _ hc)⟩
      rcases insertCell_mem _ _ _ _ hc with rfl | hc
      · show x < a; omega
      · exact h1 c hc

/-- Writing a byte inside the 32-bit space keeps the canonical form. -/
theorem writeByte_wf (m : Memory) (a : Nat) (v : Byte) (ha : a < 2 ^ 32) (h : Memory.wf m = true) :
    Memory.wf (writeByte m a v) = true := by
  simp only [Memory.wf, Bool.and_eq_true, List.all_eq_true, decide_eq_true_eq, bne_iff_ne] at h ⊢
  obtain ⟨hs, hc⟩ := h
  unfold writeByte
  split
  · exact ⟨eraseCell_sorted m a hs, fun c hm => hc c (List.mem_filter.mp hm).1⟩
  · rename_i hv
    refine ⟨insertCell_sorted _ a v (eraseCell_sorted m a hs) (eraseCell_keys m a), fun c hm => ?_⟩
    rcases insertCell_mem _ _ _ _ hm with rfl | hm
    · exact ⟨ha, hv⟩
    · exact hc c (List.mem_filter.mp hm).1

/-! ### Keys -/

theorem byteKey_lt (cfg : Config) (a : Long) : byteKey cfg a < 2 ^ 32 := (norm cfg a).isLt

/-- The key of a word is even. -/
theorem wordKey_even (cfg : Config) (a : Long) : wordKey cfg a % 2 = 0 := by
  have h : (evenAddr (norm cfg a)).getLsbD 0 = false := by simp [evenAddr]
  rw [BitVec.getLsbD, Nat.testBit_zero] at h
  unfold wordKey
  simpa using h

theorem wordKey_succ_lt (cfg : Config) (a : Long) : wordKey cfg a + 1 < 2 ^ 32 := by
  have h1 := wordKey_even cfg a
  have h2 : wordKey cfg a < 2 ^ 32 := (evenAddr (norm cfg a)).isLt
  omega

/-! ### Changes of memory -/

/-- A write cycle keeps the canonical form, whatever its addresses. -/
theorem performCycle_wf (c : WriteCycle) (m : Memory) (h : m.wf = true) : (performCycle m c).wf = true := by
  induction c generalizing m with
  | nil => exact h
  | cons cell c ih => exact ih _ (writeByte_wf _ _ _ cell.1.isLt h)

/-- So do any changes of memory. -/
theorem performChanges_wf (changes : List MemoryChange) (m : Memory) (h : m.wf = true) :
    (changes.foldl performChange m).wf = true := by
  induction changes generalizing m with
  | nil => exact h
  | cons c changes ih => exact ih _ (performCycle_wf _ m h)

/-- A byte after a write cycle depends on that byte before it only. -/
theorem readByte_performCycle_congr (c : WriteCycle) {m m' : Memory} {k : Nat} (h : readByte m' k = readByte m k) :
    readByte (performCycle m' c) k = readByte (performCycle m c) k := by
  induction c generalizing m m' with
  | nil => exact h
  | cons cell c ih => exact ih (by simp only [readByte_writeByte, h])

theorem readByte_performCycles_congr (acts : List WriteCycle) {m m' : Memory} {k : Nat} (h : readByte m' k = readByte m k) :
    readByte (acts.foldl performCycle m') k = readByte (acts.foldl performCycle m) k := by
  induction acts generalizing m m' with
  | nil => exact h
  | cons c acts ih => exact ih (readByte_performCycle_congr c h)

/-- What the environment has written, as changes of memory. -/
theorem foldl_environment (acts : List WriteCycle) (m : Memory) :
    (acts.map MemoryChange.environment).foldl performChange m = acts.foldl performCycle m := List.foldl_map ..

theorem environmentWrites_environment (acts : List WriteCycle) :
    environmentWrites (acts.map MemoryChange.environment) = acts := by
  rw [environmentWrites, List.filterMap_map]
  exact List.filterMap_some

theorem environmentWrites_append (a b : List MemoryChange) :
    environmentWrites (a ++ b) = environmentWrites a ++ environmentWrites b := List.filterMap_append

/-! ### The environment -/

/-- No act changes nothing. -/
@[simp] theorem environmentActs_zero (s : State) : environmentActs 0 s = s := rfl

/-- Acts in two groups are those acts. -/
theorem environmentActs_add (m n : Nat) (s : State) : environmentActs n (environmentActs m s) = environmentActs (m + n) s := by
  simp only [environmentActs, List.take_add, List.drop_drop, List.foldl_append, List.map_append, List.reverse_append,
    List.append_assoc]

/-- With no act to come the environment changes nothing. -/
theorem environmentActs_none (n : Nat) {s : State} (h : s.env.acts = []) : environmentActs n s = s := by
  obtain ⟨cfg, ⟨macs, ssby, ra, rk, sa, ar, br, offers, acts⟩, er, pc⟩ := s
  subst h
  simp [environmentActs]

@[simp] theorem beforeCycles_zero (s : State) : beforeCycles 0 s = s := by
  unfold beforeCycles actsBefore
  cases s.cfg.granularity <;> rfl

/-- Bus cycles in two groups are those bus cycles. -/
theorem beforeCycles_add (m n : Nat) (s : State) : beforeCycles n (beforeCycles m s) = beforeCycles (m + n) s := by
  unfold beforeCycles
  rw [environmentActs_cfg, environmentActs_add]
  unfold actsBefore
  cases s.cfg.granularity <;> rfl

theorem beforeCycles_succ (n : Nat) (s : State) : beforeCycle (beforeCycles n s) = beforeCycles (n + 1) s :=
  beforeCycles_add n 1 s

/-- Where the environment does not act inside an instruction nothing happens before its bus cycles. -/
theorem State.Undisturbed.beforeCycles {s : State} (h : s.Undisturbed) (n : Nat) : beforeCycles n s = s := by
  unfold Sys2Proof.Machine.beforeCycles
  rcases h with h | h
  · rw [h]; rfl
  · exact environmentActs_none _ h

theorem State.Undisturbed.beforeCycle {s : State} (h : s.Undisturbed) : beforeCycle s = s := h.beforeCycles 1

/-- Of the environment only what it has still to do is another. -/
def SameEnv (s t : State) : Prop := t.env = { s.env with acts := t.env.acts }

theorem SameEnv.trans {s t u : State} (h : SameEnv s t) (h' : SameEnv t u) : SameEnv s u := by
  unfold SameEnv at *
  rw [h', h]

/-! ### What a bus cycle depends on -/

theorem SameBus.refl (s : State) : SameBus s s := ⟨rfl, rfl, rfl, rfl⟩

theorem SameBus.symm {s t : State} (h : SameBus s t) : SameBus t s := ⟨h.mem.symm, h.writes.symm, h.cfg.symm, h.acts.symm⟩

theorem SameBus.trans {s t u : State} (h : SameBus s t) (h' : SameBus t u) : SameBus s u :=
  ⟨h'.mem.trans h.mem, h'.writes.trans h.writes, h'.cfg.trans h.cfg, h'.acts.trans h.acts⟩

theorem SameBus.environmentActs {s t : State} (h : SameBus s t) (n : Nat) :
    SameBus (environmentActs n s) (environmentActs n t) := by
  obtain ⟨hm, hw, hc, ha⟩ := h
  constructor <;> simp only [Sys2Proof.Machine.environmentActs, hm, hw, hc, ha]

theorem SameBus.beforeCycles {s t : State} (h : SameBus s t) (n : Nat) : SameBus (beforeCycles n s) (beforeCycles n t) := by
  unfold Sys2Proof.Machine.beforeCycles
  rw [h.cfg]
  exact h.environmentActs _

theorem SameBus.beforeCycle {s t : State} (h : SameBus s t) : SameBus (beforeCycle s) (beforeCycle t) := h.beforeCycles 1

theorem SameBus.byteAt {s t : State} (h : SameBus s t) (a : Long) : byteAt t a = byteAt s a := by
  simp only [Sys2Proof.Machine.byteAt, h.mem, h.cfg]

theorem SameBus.wordAt {s t : State} (h : SameBus s t) (a : Long) : wordAt t a = wordAt s a := by
  simp only [Sys2Proof.Machine.wordAt, h.mem, h.cfg]

theorem SameBus.read8 {s t : State} (h : SameBus s t) (a : Long) : read8 t a = read8 s a := h.beforeCycle.byteAt a

theorem SameBus.read16 {s t : State} (h : SameBus s t) (a : Long) : read16 t a = read16 s a := h.beforeCycle.wordAt a

theorem SameBus.read32 {s t : State} (h : SameBus s t) (a : Long) : read32 t a = read32 s a := by
  simp only [Sys2Proof.Machine.read32, h.read16, h.beforeCycle.read16]

theorem SameBus.load {w : Nat} (r : Reg w) {s t : State} (h : SameBus s t) (a : Long) : r.load t a = r.load s a := by
  cases r with
  | b r => exact h.read8 a
  | w r => exact h.read16 a
  | l n => exact h.read32 a

theorem SameBus.write {s t : State} (h : SameBus s t) (c : WriteCycle) : SameBus (write c s) (write c t) :=
  ⟨congrArg (performCycle · c) h.beforeCycle.mem, congrArg (MemoryChange.cpu c :: ·) h.beforeCycle.writes, h.cfg,
    h.beforeCycle.acts⟩

theorem SameBus.write8 {s t : State} (h : SameBus s t) (a : Long) (v : Byte) : SameBus (write8 s a v) (write8 t a v) := by
  unfold Sys2Proof.Machine.write8
  rw [h.cfg]
  exact h.write _

theorem SameBus.write16 {s t : State} (h : SameBus s t) (a : Long) (v : Half) : SameBus (write16 s a v) (write16 t a v) := by
  unfold Sys2Proof.Machine.write16
  rw [h.cfg]
  exact h.write _

theorem SameBus.write32 {s t : State} (h : SameBus s t) (a v : Long) : SameBus (write32 s a v) (write32 t a v) :=
  (h.write16 _ _).write16 _ _

/-- The byte at `k` and the environment's acts to come agree: then they agree after more acts too. -/
structure AgreeAt (k : Nat) (s t : State) : Prop where
  byte : readByte t.mem k = readByte s.mem k
  cfg : t.cfg = s.cfg
  acts : t.env.acts = s.env.acts

theorem AgreeAt.refl (k : Nat) (s : State) : AgreeAt k s s := ⟨rfl, rfl, rfl⟩

theorem AgreeAt.trans {k : Nat} {s t u : State} (h : AgreeAt k s t) (h' : AgreeAt k t u) : AgreeAt k s u :=
  ⟨h'.byte.trans h.byte, h'.cfg.trans h.cfg, h'.acts.trans h.acts⟩

theorem SameBus.agreeAt {s t : State} (h : SameBus s t) (k : Nat) : AgreeAt k s t := ⟨by rw [h.mem], h.cfg, h.acts⟩

theorem AgreeAt.beforeCycles {k : Nat} {s t : State} (h : AgreeAt k s t) (n : Nat) :
    AgreeAt k (beforeCycles n s) (beforeCycles n t) := by
  unfold Sys2Proof.Machine.beforeCycles
  rw [h.cfg]
  refine ⟨?_, h.cfg, by simp only [environmentActs, h.acts]⟩
  simp only [environmentActs, h.acts]
  exact readByte_performCycles_congr _ h.byte

/-! ### Memory as the CPU reaches it -/

/-- The lower byte of a word lies next to the upper one. -/
theorem evenAddr_succ_toNat (cfg : Config) (a : Long) : (evenAddr (norm cfg a) + 1).toNat = wordKey cfg a + 1 := by
  have h := wordKey_succ_lt cfg a
  unfold wordKey at h ⊢
  rw [BitVec.toNat_add]
  exact Nat.mod_eq_of_lt h

theorem write8_mem (s : State) (a : Long) (v : Byte) :
    (write8 s a v).mem = writeByte (beforeCycle s).mem (byteKey s.cfg a) v := rfl

theorem write16_mem (s : State) (a : Long) (v : Half) :
    (write16 s a v).mem =
      writeByte (writeByte (beforeCycle s).mem (wordKey s.cfg a) (v.extractLsb' 8 8)) (wordKey s.cfg a + 1)
        (v.extractLsb' 0 8) := by
  rw [← evenAddr_succ_toNat]; rfl

/-- From `s` to `t` memory has changed by the changes that were noted, and by no other; the environment's among them were the next
of its acts. -/
def Logged (s t : State) : Prop :=
  ∃ changes, t.writes = changes ++ s.writes ∧ t.mem = changes.reverse.foldl performChange s.mem ∧
    s.env.acts = environmentWrites changes.reverse ++ t.env.acts

theorem SameBus.logged {s t : State} (h : SameBus s t) : Logged s t := ⟨[], h.writes, h.mem, h.acts.symm⟩

theorem Logged.refl (s : State) : Logged s s := (SameBus.refl s).logged

theorem Logged.trans {s t u : State} (h : Logged s t) (h' : Logged t u) : Logged s u := by
  obtain ⟨c, hw, hm, ha⟩ := h
  obtain ⟨d, hw', hm', ha'⟩ := h'
  exact ⟨d ++ c, by rw [hw', hw, List.append_assoc], by rw [hm', hm, List.reverse_append, List.foldl_append],
    by rw [ha, ha', List.reverse_append, environmentWrites_append, List.append_assoc]⟩

theorem Logged.congr {s t u : State} (h : Logged s t) (hb : SameBus t u) : Logged s u := h.trans hb.logged

theorem Logged.wf {s t : State} (h : Logged s t) (hs : s.mem.wf = true) : t.mem.wf = true := by
  obtain ⟨c, -, hm, -⟩ := h
  rw [hm]
  exact performChanges_wf _ _ hs

/-- What is left of the environment's acts is a tail of them. -/
theorem Logged.acts_suffix {s t : State} (h : Logged s t) : t.env.acts <:+ s.env.acts := by
  obtain ⟨c, -, -, ha⟩ := h
  exact ⟨_, ha.symm⟩

theorem environmentActs_logged (n : Nat) (s : State) : Logged s (environmentActs n s) :=
  ⟨((s.env.acts.take n).map MemoryChange.environment).reverse, rfl, by rw [List.reverse_reverse, foldl_environment]; rfl,
    by rw [List.reverse_reverse, environmentWrites_environment]; exact (List.take_append_drop n _).symm⟩

theorem beforeCycles_logged (n : Nat) (s : State) : Logged s (beforeCycles n s) := environmentActs_logged _ s

theorem write_logged (c : WriteCycle) (s : State) : Logged s (write c s) :=
  (beforeCycles_logged 1 s).trans ⟨[.cpu c], rfl, rfl, rfl⟩

theorem write8_logged (s : State) (a : Long) (v : Byte) : Logged s (write8 s a v) := write_logged _ s

theorem write16_logged (s : State) (a : Long) (v : Half) : Logged s (write16 s a v) := write_logged _ s

theorem write32_logged (s : State) (a : Long) (v : Long) : Logged s (write32 s a v) :=
  (write16_logged s _ _).trans (write16_logged _ _ _)

theorem store_logged {w : Nat} (rs : Reg w) (a : Long) (v : BitVec w) (s : State) : Logged s (rs.store a v s) := by
  cases rs with
  | b r => exact write8_logged s a v
  | w r => exact write16_logged s a v
  | l n => exact write32_logged s a v

theorem write8_wf (s : State) (a : Long) (v : Byte) (h : s.mem.wf = true) : (write8 s a v).mem.wf = true :=
  (write8_logged s a v).wf h

theorem write16_wf (s : State) (a : Long) (v : Half) (h : s.mem.wf = true) : (write16 s a v).mem.wf = true :=
  (write16_logged s a v).wf h

theorem write32_wf (s : State) (a : Long) (v : Long) (h : s.mem.wf = true) : (write32 s a v).mem.wf = true :=
  (write32_logged s a v).wf h

theorem store_wf {w : Nat} (rs : Reg w) (a : Long) (v : BitVec w) (s : State) (h : s.mem.wf = true) :
    (rs.store a v s).mem.wf = true := (store_logged rs a v s).wf h

/-- The byte a word store leaves at each key. -/
theorem readByte_write16 (s : State) (a : Long) (v : Half) (k : Nat) :
    readByte (write16 s a v).mem k =
      if k = wordKey s.cfg a + 1 then v.extractLsb' 0 8
      else if k = wordKey s.cfg a then v.extractLsb' 8 8 else readByte (beforeCycle s).mem k := by
  simp only [write16_mem, readByte_writeByte]

/-- A word stands as written. -/
@[simp] theorem wordAt_write16_same (s : State) (a : Long) (v : Half) : wordAt (write16 s a v) a = v := by
  simp only [wordAt, readByte_write16, write16_cfg, if_true]
  rw [if_neg (by omega), BitVec.extractLsb'_append_extractLsb'_eq_extractLsb' (by omega)]
  simp

/-- A byte stands as written. -/
@[simp] theorem byteAt_write8_same (s : State) (a : Long) (v : Byte) : byteAt (write8 s a v) a = v := by
  simp [byteAt, write8_mem]

/-- A word store leaves every other byte as the environment has left it. -/
theorem write16_agreeAt (s : State) (a : Long) (v : Half) {k : Nat} (hk : k ∉ wordKeys s.cfg a) :
    AgreeAt k (beforeCycle s) (write16 s a v) := by
  simp only [wordKeys, List.mem_cons, List.not_mem_nil, or_false, not_or] at hk
  exact ⟨by rw [readByte_write16, if_neg hk.2, if_neg hk.1], rfl, rfl⟩

theorem write8_agreeAt (s : State) (a : Long) (v : Byte) {k : Nat} (hk : k ≠ byteKey s.cfg a) :
    AgreeAt k (beforeCycle s) (write8 s a v) := ⟨by rw [write8_mem, readByte_writeByte_ne _ _ hk], rfl, rfl⟩

theorem write32_agreeAt (s : State) (a : Long) (v : Long) {k : Nat} (hk : k ∉ longKeys s.cfg a) :
    AgreeAt k (beforeCycles 2 s) (write32 s a v) := by
  simp only [longKeys, List.mem_append, not_or] at hk
  have h := (write16_agreeAt s (evenAddr a) (v.extractLsb' 16 16) hk.1).beforeCycles 1
  rw [beforeCycle, beforeCycles_add] at h
  exact h.trans (write16_agreeAt _ _ _ hk.2)

theorem store_agreeAt {w : Nat} (rs : Reg w) (a : Long) (v : BitVec w) (s : State) {k : Nat} (hk : k ∉ rs.keys s.cfg a) :
    AgreeAt k (beforeCycles rs.cycles s) (rs.store a v s) := by
  cases rs with
  | b r => exact write8_agreeAt s a v (by simpa [Reg.keys] using hk)
  | w r => exact write16_agreeAt s a v hk
  | l n => exact write32_agreeAt s a v hk

/-- A store reaches the bytes of its keys only. -/
theorem store_outside {w : Nat} (rs : Reg w) (a : Long) (v : BitVec w) (s : State) :
    SameMemoryOutside (rs.keys s.cfg a) (beforeCycles rs.cycles s) (rs.store a v s) :=
  fun _ hk => (store_agreeAt rs a v s hk).byte

theorem write16_outside (s : State) (a : Long) (v : Half) :
    SameMemoryOutside (wordKeys s.cfg a) (beforeCycle s) (write16 s a v) := fun _ hk => (write16_agreeAt s a v hk).byte

theorem write32_outside (s : State) (a : Long) (v : Long) :
    SameMemoryOutside (longKeys s.cfg a) (beforeCycles 2 s) (write32 s a v) := fun _ hk => (write32_agreeAt s a v hk).byte

/-- Memory right after reset is in canonical form. -/
theorem reset_mem_wf : State.reset.mem.wf = true := rfl

end Sys2Proof.Machine
end

