-- ==== Sys2Proof/Laws/Flags.lean ====
section
/-! SUPPORT. Every flag computation in the terms of arithmetic: carries, borrows and signed overflow (R200, R201, R600, R601). -/

namespace Sys2Proof.Machine

/-! ### Bits as numbers -/

theorem msb_eq_toInt {w : Nat} (v : BitVec w) : v.msb = decide (v.toInt < 0) := BitVec.msb_eq_toInt

theorem beq_zero_eq_toNat {w : Nat} (v : BitVec w) : (v == 0#w) = decide (v.toNat = 0) := by
  rw [Bool.eq_iff_iff]
  simp only [beq_iff_eq, decide_eq_true_eq]
  exact ⟨fun h => by simp [h], fun h => BitVec.eq_of_toNat_eq (by simpa using h)⟩

theorem setNZV0_eq {w : Nat} (v : BitVec w) (c : Ccr) : setNZV0 v c = resultFlags v c := by
  simp [setNZV0, setNZ, resultFlags, msb_eq_toInt, beq_zero_eq_toNat]

/-- The top bit is the upper half of the range. -/
theorem msb_iff {w : Nat} (v : BitVec w) : v.msb = true ↔ 2 ^ (w - 1) ≤ v.toNat := by
  rw [BitVec.msb_eq_decide]; simp

theorem two_pow_half {w : Nat} (hw : 0 < w) : 2 ^ w = 2 * 2 ^ (w - 1) := by
  rw [← Nat.pow_succ']; congr 1; omega

/-- A signed value in the terms of the unsigned one. -/
theorem toInt_cases {w : Nat} (hw : 0 < w) (v : BitVec w) :
    (v.msb = true ∧ v.toInt = (v.toNat : Int) - 2 * (2 ^ (w - 1) : Nat) ∧ 2 ^ (w - 1) ≤ v.toNat ∧ v.toNat < 2 * 2 ^ (w - 1)) ∨
      (v.msb = false ∧ v.toInt = v.toNat ∧ v.toNat < 2 ^ (w - 1)) := by
  have hl : v.toNat < 2 ^ w := v.isLt
  have hp := two_pow_half hw
  have hm := msb_iff v
  rw [BitVec.toInt_eq_msb_cond]
  cases h : v.msb
  · right
    rw [h] at hm
    refine ⟨rfl, by simp, ?_⟩
    by_contra hc
    exact absurd (hm.mpr (by omega)) (by simp)
  · left
    refine ⟨rfl, ?_, hm.mp h, by omega⟩
    simp only [if_true]
    rw [hp]; push_cast; rfl

/-- The half range as an integer. -/
theorem half_cast (w : Nat) : (2 : Int) ^ (w - 1) = (2 ^ (w - 1) : Nat) := by push_cast; rfl

/-! ### Sums -/

/-- Two of three bits, when the third is the sum bit. -/
theorem majority_sum (a b k : Bool) :
    ((a && b) || (b && !(b ^^ (a ^^ k))) || (a && !(b ^^ (a ^^ k)))) = Bool.atLeastTwo b a k := by
  revert a b k; decide

/-- A number below four halves, cut to two halves. -/
theorem mod_two_halves {x p : Nat} (h : x < 4 * p) :
    (x % (2 * p) = x ∧ x < 2 * p) ∨ (x % (2 * p) + 2 * p = x ∧ 2 * p ≤ x) := by
  by_cases hx : x < 2 * p
  · exact Or.inl ⟨Nat.mod_eq_of_lt hx, hx⟩
  · have h2 : x - 2 * p < 2 * p := by omega
    rw [Nat.mod_eq_sub_mod (by omega), Nat.mod_eq_of_lt h2]
    omega

/-- The flags of ADD and ADDX before the rule for Z of R202. -/
theorem addFlags_eq {w : Nat} (hw : 5 ≤ w) (d s : BitVec w) (k : Bool) (c : Ccr) :
    addFlags d s (d + s + (BitVec.ofBool k).setWidth w) c = sumFlags d s k (d + s + (BitVec.ofBool k).setWidth w) c := by
  have hmaj (i : Nat) (hi : i < w) :
      ((s.getLsbD i && d.getLsbD i) ||
        (d.getLsbD i && !(d + s + (BitVec.ofBool k).setWidth w).getLsbD i) ||
        (s.getLsbD i && !(d + s + (BitVec.ofBool k).setWidth w).getLsbD i)) = BitVec.carry (i + 1) d s k := by
    rw [BitVec.getLsbD_add_add_bool hi d s k, majority_sum, BitVec.carry_succ]
  have hr : (d + s + (BitVec.ofBool k).setWidth w).toNat = (d.toNat + s.toNat + k.toNat) % 2 ^ w := by
    simp only [BitVec.toNat_add, BitVec.toNat_setWidth, BitVec.toNat_ofBool, Nat.add_mod_mod, Nat.mod_add_mod]
  generalize d + s + (BitVec.ofBool k).setWidth w = r at *
  have hH := hmaj (w - 5) (by omega)
  have hC := hmaj (w - 1) (by omega)
  rw [show w - 5 + 1 = w - 4 by omega] at hH
  rw [show w - 1 + 1 = w by omega, ← BitVec.msb_eq_getLsbD_last, ← BitVec.msb_eq_getLsbD_last,
    ← BitVec.msb_eq_getLsbD_last] at hC
  simp only [addFlags, sumFlags, setNZ, Ccr.mk.injEq, true_and]
  refine ⟨?_, msb_eq_toInt r, beq_zero_eq_toNat r, ?_, ?_⟩
  · rw [hH]; simp [BitVec.carry]
  · rw [Bool.eq_iff_iff, half_cast]
    have hd := toInt_cases (by omega) d
    have hs := toInt_cases (by omega) s
    have hq := toInt_cases (by omega) r
    have hk : k.toNat ≤ 1 := by cases k <;> simp
    rw [two_pow_half (by omega : 0 < w)] at hr
    have hx := mod_two_halves (x := d.toNat + s.toNat + k.toNat) (p := 2 ^ (w - 1)) (by omega)
    rw [← hr] at hx
    clear hr hH hC hmaj
    generalize 2 ^ (w - 1) = p at *
    rcases hd with ⟨hdm, hd⟩ | ⟨hdm, hd⟩ <;> rcases hs with ⟨hsm, hs⟩ | ⟨hsm, hs⟩ <;>
      rcases hq with ⟨hqm, hq⟩ | ⟨hqm, hq⟩ <;> simp [hdm, hsm, hqm] <;> omega
  · rw [hC]; simp [BitVec.carry, Nat.mod_eq_of_lt d.isLt, Nat.mod_eq_of_lt s.isLt]

/-! ### Differences -/

/-- Two of three bits, when one is the sum of the others: the form of R201. -/
theorem majority_difference (a b k : Bool) :
    ((a && !(b ^^ (a ^^ k))) || (!(b ^^ (a ^^ k)) && b) || (a && b)) = Bool.atLeastTwo b a k := by
  revert a b k; decide

/-- A carry out of the difference and the subtrahend is a borrow. -/
theorem carry_difference {w i : Nat} (hi : i ≤ w) (d s r : BitVec w) (k : Bool)
    (h : d.toNat = (r.toNat + s.toNat + k.toNat) % 2 ^ w) :
    BitVec.carry i r s k = decide (d.toNat % 2 ^ i < s.toNat % 2 ^ i + k.toNat) := by
  have hm : d.toNat % 2 ^ i = (r.toNat % 2 ^ i + s.toNat % 2 ^ i + k.toNat) % 2 ^ i := by
    rw [h, Nat.mod_mod_of_dvd _ (Nat.pow_dvd_pow 2 hi)]
    simp [Nat.add_mod]
  have hp : 0 < 2 ^ i := Nat.two_pow_pos i
  have ha := Nat.mod_lt r.toNat hp
  have hb := Nat.mod_lt s.toNat hp
  have hk : k.toNat ≤ 1 := by cases k <;> simp
  rw [hm, BitVec.carry]
  generalize r.toNat % 2 ^ i = a at *
  generalize s.toNat % 2 ^ i = b at *
  generalize 2 ^ i = m at *
  rw [decide_eq_decide]
  by_cases hlt : a + b + k.toNat < m
  · rw [Nat.mod_eq_of_lt hlt]; omega
  · rw [Nat.mod_eq_sub_mod (by omega), Nat.mod_eq_of_lt (by omega)]; omega

/-- The flags of SUB, CMP, NEG and SUBX before the rule for Z of R202. -/
theorem subFlags_eq {w : Nat} (hw : 5 ≤ w) (d s : BitVec w) (k : Bool) (c : Ccr) :
    subFlags d s (d - s - (BitVec.ofBool k).setWidth w) c =
      differenceFlags d s k (d - s - (BitVec.ofBool k).setWidth w) c := by
  have hd0 : d = (d - s - (BitVec.ofBool k).setWidth w) + s + (BitVec.ofBool k).setWidth w := by
    rw [BitVec.sub_sub, BitVec.add_assoc, BitVec.add_comm s, BitVec.sub_add_cancel]
  generalize d - s - (BitVec.ofBool k).setWidth w = r at *
  have hr : d.toNat = (r.toNat + s.toNat + k.toNat) % 2 ^ w := by
    rw [hd0]
    simp only [BitVec.toNat_add, BitVec.toNat_setWidth, BitVec.toNat_ofBool, Nat.add_mod_mod, Nat.mod_add_mod]
  have hmaj (i : Nat) (hi : i < w) :
      ((s.getLsbD i && !d.getLsbD i) || (!d.getLsbD i && r.getLsbD i) || (s.getLsbD i && r.getLsbD i)) =
        BitVec.carry (i + 1) r s k := by
    rw [hd0, BitVec.getLsbD_add_add_bool hi r s k, majority_difference, BitVec.carry_succ]
  have hH := hmaj (w - 5) (by omega)
  have hC := hmaj (w - 1) (by omega)
  rw [show w - 5 + 1 = w - 4 by omega, carry_difference (by omega) d s r k hr] at hH
  rw [show w - 1 + 1 = w by omega, carry_difference (by omega) d s r k hr, ← BitVec.msb_eq_getLsbD_last,
    ← BitVec.msb_eq_getLsbD_last, ← BitVec.msb_eq_getLsbD_last] at hC
  simp only [subFlags, differenceFlags, setNZ, Ccr.mk.injEq, true_and]
  refine ⟨hH, msb_eq_toInt r, beq_zero_eq_toNat r, ?_, ?_⟩
  · rw [Bool.eq_iff_iff, half_cast]
    have hd := toInt_cases (by omega) d
    have hs := toInt_cases (by omega) s
    have hq := toInt_cases (by omega) r
    have hk : k.toNat ≤ 1 := by cases k <;> simp
    rw [two_pow_half (by omega : 0 < w)] at hr
    have hx := mod_two_halves (x := r.toNat + s.toNat + k.toNat) (p := 2 ^ (w - 1)) (by omega)
    rw [← hr] at hx
    clear hr hH hC hmaj hd0
    generalize 2 ^ (w - 1) = p at *
    rcases hd with ⟨hdm, hd⟩ | ⟨hdm, hd⟩ <;> rcases hs with ⟨hsm, hs⟩ | ⟨hsm, hs⟩ <;>
      rcases hq with ⟨hqm, hq⟩ | ⟨hqm, hq⟩ <;> simp [hdm, hsm, hqm] <;> omega
  · rw [hC]; simp [Nat.mod_eq_of_lt d.isLt, Nat.mod_eq_of_lt s.isLt]

/-! ### The operations of 41_arithmetic -/

theorem carryIn_false {w : Nat} : (BitVec.ofBool false).setWidth w = 0#w := by simp

theorem addOp_eq {w : Nat} (hw : 5 ≤ w) (s d : BitVec w) (c : Ccr) :
    addOp s d c = (d + s, sumFlags d s false (d + s) c) := by
  have h := addFlags_eq hw d s false c
  rw [carryIn_false, BitVec.add_zero] at h
  simp [addOp, h]

theorem addxOp_eq {w : Nat} (hw : 5 ≤ w) (s d : BitVec w) (c : Ccr) :
    addxOp s d c = (d + s + (BitVec.ofBool c.c).setWidth w,
      { sumFlags d s c.c (d + s + (BitVec.ofBool c.c).setWidth w) c with
        z := c.z && decide ((d + s + (BitVec.ofBool c.c).setWidth w).toNat = 0) }) := by
  simp only [addxOp, carryIn, addFlags_eq hw, beq_zero_eq_toNat]

theorem subOp_eq {w : Nat} (hw : 5 ≤ w) (s d : BitVec w) (c : Ccr) :
    subOp s d c = (d - s, differenceFlags d s false (d - s) c) := by
  have h := subFlags_eq hw d s false c
  rw [carryIn_false, BitVec.sub_zero] at h
  simp [subOp, h]

theorem cmpFlags_eq {w : Nat} (hw : 5 ≤ w) (s d : BitVec w) (c : Ccr) :
    cmpFlags s d c = differenceFlags d s false (d - s) c := congrArg Prod.snd (subOp_eq hw s d c)

theorem subxOp_eq {w : Nat} (hw : 5 ≤ w) (s d : BitVec w) (c : Ccr) :
    subxOp s d c = (d - s - (BitVec.ofBool c.c).setWidth w,
      { differenceFlags d s c.c (d - s - (BitVec.ofBool c.c).setWidth w) c with
        z := c.z && decide ((d - s - (BitVec.ofBool c.c).setWidth w).toNat = 0) }) := by
  simp only [subxOp, carryIn, subFlags_eq hw, beq_zero_eq_toNat]

theorem negOp_eq {w : Nat} (hw : 5 ≤ w) (d : BitVec w) (c : Ccr) :
    negOp d c = (0#w - d, differenceFlags 0#w d false (0#w - d) c) := by
  have h := congrArg Prod.snd (subOp_eq hw d 0#w c)
  simp only at h
  rw [← h]
  simp only [negOp, subOp, subFlags, setNZ, Prod.mk.injEq, Ccr.mk.injEq, true_and]
  generalize 0#w - d = r
  refine ⟨?_, ?_, ?_⟩ <;> simp
  · exact fun h _ => Or.inl h
  · exact fun h _ => Or.inl h

theorem incOp_eq {w : Nat} (hw : 3 ≤ w) (k : Nat) (hk : k < 2 ^ (w - 1)) (d : BitVec w) (c : Ccr) :
    incOp (BitVec.ofNat w k) d c = (BitVec.ofInt w (d.toInt + k),
      { c with
        n := decide ((BitVec.ofInt w (d.toInt + k)).toInt < 0)
        z := decide ((BitVec.ofInt w (d.toInt + k)).toNat = 0)
        v := decide (d.toInt + k < -2 ^ (w - 1) ∨ 2 ^ (w - 1) ≤ d.toInt + k) }) := by
  have h1 : BitVec.ofInt w (d.toInt + k) = d + BitVec.ofNat w k := by
    rw [BitVec.ofInt_add, BitVec.ofInt_toInt, BitVec.ofInt_natCast]
  rw [h1]
  simp only [incOp, setNZ, Prod.mk.injEq, Ccr.mk.injEq, true_and, and_true]
  refine ⟨msb_eq_toInt _, beq_zero_eq_toNat _, ?_⟩
  rw [Bool.eq_iff_iff, half_cast]
  have hp := two_pow_half (by omega : 0 < w)
  have hr : (d + BitVec.ofNat w k).toNat = (d.toNat + k) % (2 * 2 ^ (w - 1)) := by
    rw [BitVec.toNat_add, BitVec.toNat_ofNat, Nat.add_mod_mod, hp]
  generalize d + BitVec.ofNat w k = r at *
  have hd := toInt_cases (by omega) d
  have hq := toInt_cases (by omega) r
  have hx := mod_two_halves (x := d.toNat + k) (p := 2 ^ (w - 1)) (by omega)
  rw [← hr] at hx
  clear hr hp h1
  generalize 2 ^ (w - 1) = p at *
  rcases hd with ⟨hdm, hd⟩ | ⟨hdm, hd⟩ <;> rcases hq with ⟨hqm, hq⟩ | ⟨hqm, hq⟩ <;> simp [hdm, hqm] <;> omega

theorem decOp_eq {w : Nat} (hw : 3 ≤ w) (k : Nat) (hk : k < 2 ^ (w - 1)) (d : BitVec w) (c : Ccr) :
    decOp (BitVec.ofNat w k) d c = (BitVec.ofInt w (d.toInt + -(k : Int)),
      { c with
        n := decide ((BitVec.ofInt w (d.toInt + -(k : Int))).toInt < 0)
        z := decide ((BitVec.ofInt w (d.toInt + -(k : Int))).toNat = 0)
        v := decide (d.toInt + -(k : Int) < -2 ^ (w - 1) ∨ 2 ^ (w - 1) ≤ d.toInt + -(k : Int)) }) := by
  have h1 : BitVec.ofInt w (d.toInt + -(k : Int)) = d - BitVec.ofNat w k := by
    rw [BitVec.ofInt_add, BitVec.ofInt_toInt, BitVec.ofInt_neg, BitVec.ofInt_natCast, BitVec.sub_eq_add_neg]
  rw [h1]
  simp only [decOp, setNZ, Prod.mk.injEq, Ccr.mk.injEq, true_and, and_true]
  refine ⟨msb_eq_toInt _, beq_zero_eq_toNat _, ?_⟩
  rw [Bool.eq_iff_iff, half_cast]
  have hp := two_pow_half (by omega : 0 < w)
  have hr : d.toNat = ((d - BitVec.ofNat w k).toNat + k) % (2 * 2 ^ (w - 1)) := by
    conv_lhs => rw [← BitVec.sub_add_cancel d (BitVec.ofNat w k)]
    rw [BitVec.toNat_add, BitVec.toNat_ofNat, Nat.add_mod_mod, hp]
  generalize d - BitVec.ofNat w k = r at *
  have hd := toInt_cases (by omega) d
  have hq := toInt_cases (by omega) r
  have hx := mod_two_halves (x := r.toNat + k) (p := 2 ^ (w - 1)) (by omega)
  rw [← hr] at hx
  clear hr hp h1
  generalize 2 ^ (w - 1) = p at *
  rcases hd with ⟨hdm, hd⟩ | ⟨hdm, hd⟩ <;> rcases hq with ⟨hqm, hq⟩ | ⟨hqm, hq⟩ <;> simp [hdm, hqm] <;> omega

/-! ### The operations of 44_shift -/

theorem shifted_eq {w : Nat} (r : BitVec w) (out : Bool) (c : Ccr) :
    shifted r out c = (r, { resultFlags r c with c := out, v := false }) := by
  simp only [shifted, setNZV0_eq]; rfl

theorem shalOp_eq {w : Nat} (k : Nat) (hk : k < w) (d : BitVec w) (c : Ccr) :
    shalOp k d c = (d <<< k, { resultFlags (d <<< k) c with
      c := d.getLsbD (w - k)
      v := decide (d.toInt * 2 ^ k < -2 ^ (w - 1) ∨ 2 ^ (w - 1) ≤ d.toInt * 2 ^ k) }) := by
  simp only [shalOp, shifted_eq, Prod.mk.injEq, true_and]
  congr 1
  have h0 (n : Nat) : (d.sshiftRight n == 0#w) = decide (d.toInt / 2 ^ n = 0) := by
    rw [Bool.eq_iff_iff, beq_iff_eq, decide_eq_true_eq, ← BitVec.toInt_inj, BitVec.toInt_sshiftRight,
      Int.shiftRight_eq_div_pow, BitVec.toInt_zero]
    norm_cast
  have h1 (n : Nat) : (d.sshiftRight n == BitVec.allOnes w) = decide (d.toInt / 2 ^ n = -1) := by
    rw [Bool.eq_iff_iff, beq_iff_eq, decide_eq_true_eq, ← BitVec.toInt_inj, BitVec.toInt_sshiftRight,
      Int.shiftRight_eq_div_pow, BitVec.toInt_allOnes, if_pos (by omega)]
    norm_cast
  rw [h0, h1, Bool.eq_iff_iff]
  have hp : (2 : Int) ^ (w - 1) = 2 ^ (w - 1 - k) * 2 ^ k := by rw [← pow_add]; congr 1; omega
  have hq : (0 : Int) < 2 ^ k := by positivity
  have hn : (0 : Int) < 2 ^ (w - 1 - k) := by positivity
  have hlo : 2 ^ (w - 1 - k) * (d.toInt / 2 ^ (w - 1 - k)) ≤ d.toInt := Int.mul_ediv_self_le (by omega)
  have hhi : d.toInt < 2 ^ (w - 1 - k) * (d.toInt / 2 ^ (w - 1 - k)) + 2 ^ (w - 1 - k) := Int.lt_mul_ediv_self_add hn
  rw [hp]
  generalize (2 : Int) ^ (w - 1 - k) = n at *
  generalize (2 : Int) ^ k = m at *
  generalize d.toInt = x at *
  generalize x / n = q at *
  have hin : (q = 0 ∨ q = -1) ↔ -n ≤ x ∧ x < n := by
    constructor
    · rintro (rfl | rfl) <;> constructor <;> linarith
    · rintro ⟨ha, hb⟩
      have h1 : q < 1 := by by_contra hc; nlinarith
      have h2 : -2 < q := by by_contra hc; nlinarith
      omega
  have hlt : x * m < -(n * m) ↔ x < -n := by
    rw [← neg_mul]; exact mul_lt_mul_iff_left₀ hq
  have hle : n * m ≤ x * m ↔ n ≤ x := mul_le_mul_iff_left₀ hq
  simp only [Bool.not_eq_true', Bool.or_eq_false_iff, decide_eq_false_iff_not, decide_eq_true_eq, hlt, hle]
  rw [← not_or, hin]
  omega

theorem sharOp_eq {w : Nat} (k : Nat) (d : BitVec w) (c : Ccr) :
    sharOp k d c = (d.sshiftRight k, { resultFlags (d.sshiftRight k) c with c := d.getLsbD (k - 1), v := false }) :=
  shifted_eq _ _ _

theorem shllOp_eq {w : Nat} (k : Nat) (d : BitVec w) (c : Ccr) :
    shllOp k d c = (d <<< k, { resultFlags (d <<< k) c with c := d.getLsbD (w - k), v := false }) := shifted_eq _ _ _

theorem shlrOp_eq {w : Nat} (k : Nat) (d : BitVec w) (c : Ccr) :
    shlrOp k d c = (d >>> k, { resultFlags (d >>> k) c with c := d.getLsbD (k - 1), v := false }) := shifted_eq _ _ _

theorem rotlOp_eq {w : Nat} (k : Nat) (hk : k < w) (d : BitVec w) (c : Ccr) :
    rotlOp k d c = (d.rotateLeft k, { resultFlags (d.rotateLeft k) c with c := d.getLsbD (w - k), v := false }) := by
  rw [rotlOp, BitVec.rotateLeft_def, Nat.mod_eq_of_lt hk, shifted_eq]

theorem rotrOp_eq {w : Nat} (k : Nat) (hk : k < w) (d : BitVec w) (c : Ccr) :
    rotrOp k d c = (d.rotateRight k, { resultFlags (d.rotateRight k) c with c := d.getLsbD (k - 1), v := false }) := by
  rw [rotrOp, BitVec.rotateRight_def, Nat.mod_eq_of_lt hk, shifted_eq]

/-- The carry above a register: the value that ROTXL and ROTXR rotate. -/
theorem getLsbD_withCarry {w : Nat} (d : BitVec w) (b : Bool) (i : Nat) :
    (BitVec.ofBool b ++ d).getLsbD i = if i < w then d.getLsbD i else decide (i = w) && b := by
  rw [BitVec.getLsbD_append]
  split
  · rfl
  · rw [BitVec.getLsbD_ofBool]; congr 1; rw [decide_eq_decide]; omega

theorem getLsbD_carryIn {w : Nat} (c : Ccr) (i : Nat) : (carryIn w c).getLsbD i = (decide (i = 0) && decide (0 < w) && c.c) := by
  rw [carryIn, BitVec.getLsbD_setWidth, BitVec.getLsbD_ofBool]
  by_cases h : i = 0 <;> simp [h]

/-- ROTXL rotates the register with the carry above it. -/
theorem rotxlOp_eq {w : Nat} (k : Nat) (hk : 0 < k) (hw : k < w) (d : BitVec w) (c : Ccr) :
    rotxlOp k d c =
      ((((BitVec.ofBool c.c ++ d).rotateLeft k).setWidth w),
        { resultFlags (((BitVec.ofBool c.c ++ d).rotateLeft k).setWidth w) c with
          c := ((BitVec.ofBool c.c ++ d).rotateLeft k).getLsbD w
          v := false }) := by
  have hr : d <<< k ||| carryIn w c <<< (k - 1) ||| d >>> (w + 1 - k) =
      ((BitVec.ofBool c.c ++ d).rotateLeft k).setWidth w := by
    apply BitVec.eq_of_getLsbD_eq
    intro i hi
    rw [BitVec.getLsbD_setWidth, BitVec.getLsbD_rotateLeft, Nat.mod_eq_of_lt (by omega), BitVec.getLsbD_or,
      BitVec.getLsbD_or, BitVec.getLsbD_shiftLeft, BitVec.getLsbD_shiftLeft, BitVec.getLsbD_ushiftRight, getLsbD_carryIn]
    simp only [getLsbD_withCarry]
    rcases lt_trichotomy i (k - 1) with h | h | h
    · simp [hi, show i < k by omega, show i < k - 1 by omega, show 1 + w - k + i = w + 1 - k + i by omega]
      exact fun h => absurd h (by omega)
    · subst h
      simp [show k - 1 < w by omega, show k - 1 < k by omega, show 1 + w - k + (k - 1) = w by omega, show 0 < w by
          omega, BitVec.getLsbD_of_ge, show w ≤ w + 1 - k + (k - 1) by omega]
    · simp [hi, show ¬ i < k by omega, show ¬ i < k - 1 by omega, show i - k < w by omega, show i < 1 + w by omega, show
        i - (k - 1) ≠ 0 by omega, BitVec.getLsbD_of_ge, show w ≤ w + 1 - k + i by omega]
  rw [rotxlOp, shifted_eq, hr]
  congr 2
  rw [BitVec.getLsbD_rotateLeft, Nat.mod_eq_of_lt (by omega)]
  simp [getLsbD_withCarry, show ¬ w < k by omega, show w - k < w by omega]
/-- ROTXR rotates the register with the carry above it. -/
theorem rotxrOp_eq {w : Nat} (k : Nat) (hk : 0 < k) (hw : k < w) (d : BitVec w) (c : Ccr) :
    rotxrOp k d c =
      ((((BitVec.ofBool c.c ++ d).rotateRight k).setWidth w),
        { resultFlags (((BitVec.ofBool c.c ++ d).rotateRight k).setWidth w) c with
          c := ((BitVec.ofBool c.c ++ d).rotateRight k).getLsbD w
          v := false }) := by
  have hr : d >>> k ||| carryIn w c <<< (w - k) ||| d <<< (w + 1 - k) =
      ((BitVec.ofBool c.c ++ d).rotateRight k).setWidth w := by
    apply BitVec.eq_of_getLsbD_eq
    intro i hi
    rw [BitVec.getLsbD_setWidth, BitVec.getLsbD_rotateRight, Nat.mod_eq_of_lt (by omega), BitVec.getLsbD_or,
      BitVec.getLsbD_or, BitVec.getLsbD_shiftLeft, BitVec.getLsbD_shiftLeft, BitVec.getLsbD_ushiftRight, getLsbD_carryIn]
    simp only [getLsbD_withCarry]
    rcases lt_trichotomy (i + k) w with h | h | h
    · simp [hi, show i < 1 + w - k by omega, show k + i < w by omega, show i < w - k by omega, show i < w + 1 - k by omega]
    · simp [hi, show i < 1 + w - k by omega, show k + i = w by omega, show ¬ i < w - k by omega, show i < w + 1 - k by
        omega, show i - (w - k) = 0 by omega, show 0 < w by omega, BitVec.getLsbD_of_ge]
    · simp [hi, show ¬ i < 1 + w - k by omega, show ¬ i < w - k by omega, show ¬ i < w + 1 - k by omega, show i - (w -
        k) ≠ 0 by omega, show i < 1 + w by omega, BitVec.getLsbD_of_ge, show w ≤ k + i by omega, show i - (1 + w - k) =
        i - (w + 1 - k) by omega]
      exact fun h => absurd h (by omega)
  rw [rotxrOp, shifted_eq, hr]
  congr 2
  rw [BitVec.getLsbD_rotateRight, Nat.mod_eq_of_lt (by omega)]
  simp [getLsbD_withCarry, show ¬ w < 1 + w - k by omega, show w - (1 + w - k) = k - 1 by omega, show k - 1 < w by omega]

end Sys2Proof.Machine
end

