-- ==== Sys2Proof/Laws/Shapes.lean ====
section
/-! SUPPORT. What each shared shape of an instruction does, said once: provers cite these lemmas and unfold no shape. -/

namespace Sys2Proof.Machine

/-! ### Registers and CCR -/

/-- The state a register result is made of. -/
theorem setsRegister_put {w : Nat} (len : BitVec 24) (rd : Reg w) (v : BitVec w) (c : Ccr) (s : State) :
    SetsRegister len rd v c s (advance len (setCcr (rd.put v s) c)) where
  value := (get_congr rd (s := rd.put v s) (t := advance len (setCcr (rd.put v s) c)) rfl).trans (put_spec rd v s).1
  others := others_congr rd (t := rd.put v s) rfl (put_spec rd v s).2
  ccr := rfl
  pc := by simp [Advanced]
  memory := fun k => by simp
  rest := by constructor <;> simp

/-- The state an instruction that only sets CCR leaves. -/
theorem setsCcr_set (len : BitVec 24) (c : Ccr) (s : State) : SetsCcr len c s (advance len (setCcr s c)) where
  ccr := rfl
  pc := rfl
  registers := fun _ => rfl
  memory := fun _ => rfl
  rest := by constructor <;> rfl

/-- The state a store leaves. -/
theorem storesAt_store {w : Nat} (len : BitVec 24) (rs : Reg w) (a : Long) (v : BitVec w) (c : Ccr) (s : State) :
    StoresAt len rs a v c s (advance len (setCcr (rs.store a v s) c)) where
  stored := rfl
  memory := store_outside rs a v s
  ccr := rfl
  pc := by simp [Advanced]
  registers := fun n => getER_store rs a v s n
  rest := by constructor <;> simp

theorem moveInto_spec {w : Nat} (len : BitVec 24) (rd : Reg w) (v : BitVec w) (s : State) :
    SetsRegister len rd v (resultFlags v s.ccr) s (moveInto len rd v s) := by
  rw [moveInto, setNZV0_eq]; exact setsRegister_put len rd v _ s

theorem update_sameBus (ea : Ea) (sz : Long) (s : State) : SameBus s (ea.update sz s) := by
  cases ea <;> exact ⟨rfl, rfl, rfl, rfl⟩

theorem moveLoad_spec {w : Nat} (len : BitVec 24) (ea : Ea) (rd : Reg w) (s : State) :
    Loads len ea rd s (.next (moveLoad len ea rd s)) := by
  refine ⟨_, rfl, ?_⟩
  rw [moveLoad, (update_sameBus ea rd.bytes s).load rd]
  have h := moveInto_spec len rd (rd.load s (ea.addr rd.bytes s)) (beforeCycles rd.cycles (ea.update rd.bytes s))
  exact h

theorem moveStore_spec {w : Nat} (len : BitVec 24) (rs : Reg w) (ea : Ea) (s : State) :
    Stores len rs ea s (.next (moveStore len rs ea s)) := by
  refine ⟨_, rfl, ?_⟩
  rw [moveStore, setNZV0_eq]
  exact storesAt_store len rs _ _ _ _

theorem alterReg_spec {w : Nat} (len : BitVec 24) (rd : Reg w) (f : BitVec w → Ccr → BitVec w × Ccr) (s : State) :
    SetsRegister len rd (f (rd.get s) s.ccr).1 (f (rd.get s) s.ccr).2 s (alterReg len rd f s) :=
  setsRegister_put len rd _ _ s

theorem testReg_spec {w : Nat} (len : BitVec 24) (rd : Reg w) (f : BitVec w → Ccr → Ccr) (s : State) :
    SetsCcr len (f (rd.get s) s.ccr) s (testReg len rd f s) := setsCcr_set len _ s

/-- A register result from a function whose value and flags are known. -/
theorem alters_of {w : Nat} {len : BitVec 24} {rd : Reg w} {f : BitVec w → Ccr → BitVec w × Ccr} {s : State} {v : BitVec w}
    {c : Ccr} (h : f (rd.get s) s.ccr = (v, c)) : Alters len rd v c s (.next (alterReg len rd f s)) := by
  refine ⟨_, rfl, ?_⟩
  have := alterReg_spec len rd f s
  rwa [h] at this

/-! ### Bits -/

theorem setBit_spec (v : Byte) (n : BitNum) (b : Bool) : BitReplaced v n b (setBit v n b) := by
  intro j
  have hj : j.val < 8 := j.isLt
  have hn : n.val < 8 := n.isLt
  cases b <;> simp only [setBit, Bool.false_eq_true, if_false, if_true] <;> rcases eq_or_ne j n with rfl | h
  · simp
  · have h' : j.val ≠ n.val := fun e => h (Fin.ext e)
    rcases lt_or_gt_of_ne h' with h' | h'
    · simp [h, h']
    · simp [h, show ¬ j.val < n.val by omega, show j.val - n.val ≠ 0 by omega]
  · simp
  · have h' : j.val ≠ n.val := fun e => h (Fin.ext e)
    rcases lt_or_gt_of_ne h' with h' | h'
    · simp [h, h']
    · simp [h, show ¬ j.val < n.val by omega, show j.val - n.val ≠ 0 by omega]

theorem testBit_spec (len : BitVec 24) (p : BitPlace) (n : BitNum) (f : Bool → Ccr → Ccr) (s : State) :
    TestsBit len p n (fun b => f b s.ccr) s (.next (testBit len p n f s)) := 
  ⟨_, rfl, setsCcr_set len _ (beforeCycles p.cycles s)⟩

theorem writesByte_put (len : BitVec 24) (p : BitPlace) (u : Byte) (s : State) :
    WritesByte len p u s (advance len (p.put u s)) := by
  cases p with
  | reg rd =>
    have h : setCcr ((Reg.b rd).put u s) s.ccr = (Reg.b rd).put u s := by cases rd <;> rfl
    have := setsRegister_put len (.b rd) u s.ccr s
    rwa [h] at this
  | mem ea =>
    refine ⟨?_, store_outside (.b (.l 0)) _ u s, rfl, rfl, fun _ => rfl, ?_⟩
    · exact readByte_writeByte_same _ _ _
    · constructor <;> rfl

theorem alterBit_spec (len : BitVec 24) (p : BitPlace) (n : BitNum) (f : Bool → Bool → Bool) (s : State) :
    ReplacesBit len p n (fun b => f b s.ccr.c) s (.next (alterBit len p n f s)) :=
  ⟨_, setBit_spec _ _ _, _, rfl, writesByte_put len p _ (beforeCycles p.cycles s)⟩

/-! ### Control transfer -/

theorem goesTo_setPc (s : State) (v : BitVec 24) : GoesTo v s (setPc s v) where
  pc := rfl
  ccr := rfl
  registers := fun _ => rfl
  memory := fun _ => rfl
  rest := by constructor <;> rfl

theorem branchIf_spec (cc : BitVec 4) (len disp : BitVec 24) (s : State) :
    Branches len disp (condition cc s.ccr) s (.next (branchIf cc len disp s)) := by
  refine ⟨_, rfl, ?_⟩
  unfold branchIf
  split <;> exact goesTo_setPc s _

theorem getER_lowerSp (n : Long) (s : State) : getER (lowerSp n s) 7 = getER s 7 - n := getER_setER_same s 7 _

theorem lowerSp_others (n : Long) (s : State) : OtherRegisters 7 s (lowerSp n s) := fun _ h => getER_setER_ne s _ h

theorem getER_raiseSp (n : Long) (s : State) : getER (raiseSp n s) 7 = getER s 7 + n := getER_setER_same s 7 _

theorem raiseSp_others (n : Long) (s : State) : OtherRegisters 7 s (raiseSp n s) := fun _ h => getER_setER_ne s _ h

/-- A pushed word: ER7 goes down by 2, then the word is stored there. -/
theorem pushWord_spec (v : Half) (s : State) :
    getER (pushWord v s) 7 = getER s 7 - 2 ∧ OtherRegisters 7 s (pushWord v s) ∧
      SameBus (write16 s (getER s 7 - 2) v) (pushWord v s) := by
  refine ⟨getER_lowerSp 2 s, lowerSp_others 2 s, ?_⟩
  rw [pushWord, sp, getER_lowerSp]
  exact SameBus.write16 (s := s) (t := lowerSp 2 s) ⟨rfl, rfl, rfl, rfl⟩ _ _

/-- A pushed longword: ER7 goes down by 4, then the longword is stored there. -/
theorem pushLong_spec (v : Long) (s : State) :
    getER (pushLong v s) 7 = getER s 7 - 4 ∧ OtherRegisters 7 s (pushLong v s) ∧
      SameBus (write32 s (getER s 7 - 4) v) (pushLong v s) := by
  refine ⟨getER_lowerSp 4 s, lowerSp_others 4 s, ?_⟩
  rw [pushLong, sp, getER_lowerSp]
  exact SameBus.write32 (s := s) (t := lowerSp 4 s) ⟨rfl, rfl, rfl, rfl⟩ _ _

theorem callTo_spec (len target : BitVec 24) (s : State) : Calls len target s (.next (callTo len target s)) := by
  unfold Calls
  split <;> rename_i hm <;> refine ⟨_, rfl, ?_⟩ <;> simp only [callTo, pushPC, hm, nextPc]
  · obtain ⟨h1, h2, h3, h4⟩ := pushWord_spec ((s.pc + len).setWidth 16) s
    refine ⟨h1, h2, h3, fun k hk => ?_, by rw [setPc_pc, pushWord_cfg, hm], rfl, by constructor <;> first | exact h4 | rfl⟩
    rw [setPc_mem, h3]
    exact write16_outside s _ _ k hk
  · obtain ⟨h1, h2, h3, h4⟩ := pushLong_spec (freeBits 8 s ++ (s.pc + len)) (drawn s)
    refine ⟨h1, h2, ⟨freeBits 8 s, h3, by constructor <;> first | exact h4 | rfl⟩, fun k hk => ?_,
      by rw [setPc_pc, pushLong_cfg, drawn_cfg, hm], rfl⟩
    rw [setPc_mem, h3]
    exact write32_outside s _ _ k hk

/-! ### CCR and EXR -/

theorem ofByte_eq (v : Byte) : Ccr.ofByte v = ccrOf v := rfl

theorem loadCcr_spec (len : BitVec 24) (v : Byte) (s : State) : LoadsCcr len v s (.next (loadCcr len v s)) :=
  ⟨_, rfl, setsCcr_set len _ { s with inhibit := true }⟩

theorem loadExr_spec (len : BitVec 24) (v : Byte) (s : State) : LoadsExr len v s (.next (loadExr len v s)) :=
  ⟨_, rfl, setsCcr_set len _ { s with inhibit := true, exr := Exr.ofByte v }⟩

/-- The upper byte of a word read is the byte at the even address. -/
theorem read16_high (s : State) (a : Long) : (read16 s a).extractLsb' 8 8 = evenByte s a := by
  rw [read16, wordAt, slice_high _ _ (by decide)]; simp [evenByte]

theorem loadControl_eq (load : BitVec 24 → Byte → State → State) (len : BitVec 24) (ea : Ea) (s : State) :
    loadControl load len ea s = load len (evenByte s (ea.addr 2 s)) (beforeCycle (ea.update 2 s)) := by
  simp only [loadControl, (update_sameBus ea 2 s).read16, read16_high]

theorem storeControl_spec (len : BitVec 24) (v : Byte) (ea : Ea) (s : State) :
    StoresControl len v ea s (.next (storeControl len v ea s)) := by
  have hu : SameBus s (drawn (ea.update 2 s)) := (update_sameBus ea 2 s).trans ⟨rfl, rfl, rfl, rfl⟩
  have hw : SameBus (write16 s (ea.addr 2 s) (v ++ freeBits 8 s)) (storeControl len v ea s) :=
    (hu.write16 _ _).trans ⟨rfl, rfl, rfl, rfl⟩
  refine ⟨_, rfl, ?_, ?_, by simp [storeControl], by simp [storeControl, Advanced], fun _ => rfl, freeBits 8 s, hw.mem, ?_⟩
  · rw [hw.mem, readByte_write16, if_neg (by omega), if_pos rfl, slice_high _ _ (by decide)]; simp
  · intro k hk
    rw [hw.mem]
    exact write16_outside s _ _ k hk
  · have he : (storeControl len v ea s).env = (write16 s (ea.addr 2 s) (v ++ freeBits 8 s)).env := by cases ea <;> rfl
    constructor <;> first | exact he | exact hw.writes | simp [storeControl]

end Sys2Proof.Machine
end

