-- ==== Sys2Proof/Laws/Exceptions.lean ====
section
/-! SUPPORT. What taking an exception and returning from one do (R471 to R476, R802, R804, R805), said once. -/

namespace Sys2Proof.Machine

/-- An exception frame: ER7 goes down by its size, and its words are stored one below the other (R802). -/
theorem pushFrame_spec (v : BitVec 24) (s : State) :
    getER (pushFrame v s) 7 = getER s 7 - frameSize s ∧ OtherRegisters 7 s (pushFrame v s) ∧
      (∃ any, SameBus (frameStored s v any) (pushFrame v s)) ∧ (pushFrame v s).ccr = s.ccr ∧ (pushFrame v s).cfg = s.cfg := by
  obtain ⟨a1, a2, a3⟩ := pushWord_spec (v.setWidth 16) s
  obtain ⟨b1, b2, b3⟩ := pushWord_spec (frameHigh s v) (pushWord (v.setWidth 16) s)
  have h4 : getER s 7 - 2 - 2 = getER s 7 - 4 := by rw [BitVec.sub_sub]; rfl
  have hup : frameHigh s v = s.ccr.toByte ++ frameUpper s v := by unfold frameHigh frameUpper; cases s.cfg.mode <;> rfl
  rw [a1, h4] at b1 b3
  have b3 := (a3.write16 (getER s 7 - 4) (frameHigh s v)).trans b3
  have hb : OtherRegisters 7 s (pushWord (frameHigh s v) (pushWord (v.setWidth 16) s)) :=
    fun n hn => (b2 n hn).trans (a2 n hn)
  unfold pushFrame frameStored frameSize
  rw [← hup]
  cases hx : exrValid s.cfg
  · simp only [Bool.false_eq_true, if_false]
    exact ⟨b1, hb, ⟨0, b3⟩, rfl, rfl⟩
  · simp only [if_true]
    obtain ⟨c1, c2, c3⟩ :=
      pushWord_spec (s.exr.toByte ++ freeBits 8 s) (drawn (pushWord (frameHigh s v) (pushWord (v.setWidth 16) s)))
    have h6 : getER s 7 - 4 - 2 = getER s 7 - 6 := by rw [BitVec.sub_sub]; rfl
    rw [getER_drawn, b1, h6] at c1 c3
    have b3 : SameBus _ (drawn (pushWord (frameHigh s v) (pushWord (v.setWidth 16) s))) := b3.trans ⟨rfl, rfl, rfl, rfl⟩
    exact ⟨c1, fun n hn => (c2 n hn).trans (hb n hn), ⟨freeBits 8 s, (b3.write16 _ _).trans c3⟩, rfl, rfl⟩

/-- A frame reaches its own bytes only. -/
theorem frameStored_agreeAt (s : State) (v : BitVec 24) (any : Byte) {k : Nat} (hk : k ∉ frameKeys s) :
    AgreeAt k (beforeCycles (frameCycles s) s) (frameStored s v any) := by
  simp only [frameKeys, List.mem_append, not_or] at hk
  obtain ⟨⟨h2, h4⟩, h6⟩ := hk
  have a := (write16_agreeAt s (getER s 7 - 2) (v.setWidth 16) h2).beforeCycles 1
  rw [beforeCycle, beforeCycles_add] at a
  have b (x : Half) := a.trans (write16_agreeAt (write16 s (getER s 7 - 2) (v.setWidth 16)) _ x h4)
  unfold frameStored frameCycles
  cases hx : exrValid s.cfg <;> simp only [hx, Bool.false_eq_true, if_false, if_true] at h6 ⊢
  · exact b _
  · have c := (b (s.ccr.toByte ++ frameUpper s v)).beforeCycles 1
    rw [beforeCycles_add] at c
    exact c.trans (write16_agreeAt (write16 (write16 s _ _) _ _) _ _ h6)

theorem frameStored_cfg (s : State) (v : BitVec 24) (any : Byte) : (frameStored s v any).cfg = s.cfg := by
  unfold frameStored
  split <;> rfl

/-- An exception changes no parameter. -/
theorem TakesException.cfg {ret : BitVec 24} {v : Nat} {x : Exr} {s t : State} (h : TakesException ret v x s t) :
    t.cfg = s.cfg := by
  obtain ⟨any, hb, -⟩ := h.frame
  exact hb.cfg.trans (frameStored_cfg s ret any)

theorem vectorFetch_eq (s : State) (v : Nat) : vectorFetch s v = vectorAddress s v := rfl

theorem SameBus.vectorAddress {s t : State} (h : SameBus s t) (v : Nat) : vectorAddress t v = vectorAddress s v := by
  simp only [Sys2Proof.Machine.vectorAddress, h.cfg, h.read16, h.read32]

/-- Everything taking an exception does. -/
theorem takeException_spec (ret : BitVec 24) (v : Nat) (x : Exr) (s : State) :
    TakesException ret v x s (takeException ret v x s) := by
  obtain ⟨h1, h2, ⟨any, h3⟩, h4, h5⟩ := pushFrame_spec ret s
  have hu : SameBus (frameStored s ret any)
      (setExr (setCcr (pushFrame ret s) (maskedCcr (pushFrame ret s).cfg (pushFrame ret s).ccr)) x) :=
    h3.trans ⟨rfl, rfl, rfl, rfl⟩
  have hb : SameBus (beforeCycles (addressCycles s.cfg) (frameStored s ret any)) (takeException ret v x s) :=
    (hu.beforeCycles _).trans ⟨by simp only [takeException, setPc_mem], by simp only [takeException, setPc_writes], rfl, rfl⟩
  have her : (takeException ret v x s).er = (pushFrame ret s).er := by simp [takeException]
  constructor
  · exact (getER_congr 7 her).trans h1
  · exact fun n hn => (getER_congr n her).trans (h2 n hn)
  · refine ⟨any, hb, ?_⟩
    simp only [takeException, setPc_pc, beforeCycles_cfg, setExr_cfg, setCcr_cfg, vectorFetch_eq, hu.vectorAddress]
    rw [h5]
  · intro k hk
    have h := ((frameStored_agreeAt s ret any hk).beforeCycles (addressCycles s.cfg)).trans (hb.agreeAt k)
    rw [beforeCycles_add] at h
    exact h.byte
  · simp only [takeException, setPc_ccr, beforeCycles_ccr, setExr_ccr, setCcr_ccr, maskedCcr, h4, h5]
  · simp only [takeException, setPc_exr, beforeCycles_exr, setExr_exr]
  · simp only [takeException, pushFrame]
    split <;> simp

/-- A frame leaves all but what it says (R802); of the environment, what is still to come is another. -/
theorem pushFrame_rest (ret : BitVec 24) (s : State) :
    SameEnv s (pushFrame ret s) ∧ (pushFrame ret s).procState = s.procState ∧ (pushFrame ret s).inhibit = s.inhibit ∧
      (pushFrame ret s).noTrace = s.noTrace ∧ (pushFrame ret s).stale = s.stale := by
  have h (v w : Half) : SameEnv s (pushWord v (pushWord w s)) := SameEnv.trans (t := pushWord w s) rfl rfl
  simp only [pushFrame]
  split
  · exact ⟨(h (frameHigh s ret) (ret.setWidth 16)).trans rfl, rfl, rfl, rfl, rfl⟩
  · exact ⟨h _ _, rfl, rfl, rfl, rfl⟩

/-- What taking an exception leaves besides. -/
theorem takeException_rest (ret : BitVec 24) (v : Nat) (x : Exr) (s : State) :
    SameEnv s (takeException ret v x s) ∧
      (takeException ret v x s).procState = s.procState ∧ (takeException ret v x s).inhibit = s.inhibit ∧
      (takeException ret v x s).noTrace = s.noTrace ∧ (takeException ret v x s).stale = s.stale ∧
      (takeException ret v x s).cfg = s.cfg := by
  obtain ⟨h1, h2, h3, h4, h5⟩ := pushFrame_rest ret s
  have hc := (pushFrame_spec ret s).2.2.2.2
  refine ⟨?_, ?_, ?_, ?_, ?_, ?_⟩
  · exact h1.trans (t := pushFrame ret s) (by simp only [takeException]; rfl)
  all_goals simp [takeException, *]

/-- ER7 after a frame has been removed. -/
theorem raise_frame (s : State) :
    getER (raiseSp 4 (if exrValid s.cfg then raiseSp 2 s else s)) 7 = getER s 7 + frameSize s ∧
      OtherRegisters 7 s (raiseSp 4 (if exrValid s.cfg then raiseSp 2 s else s)) := by
  unfold frameSize
  cases exrValid s.cfg <;> simp only [Bool.false_eq_true, if_false, if_true]
  · exact ⟨getER_raiseSp 4 s, raiseSp_others 4 s⟩
  · refine ⟨?_, fun n hn => (raiseSp_others 4 (raiseSp 2 s) n hn).trans (raiseSp_others 2 s n hn)⟩
    rw [getER_raiseSp, getER_raiseSp, BitVec.add_assoc]; rfl

/-- Where the frame's words lie: CCR's above the word of EXR. -/
theorem frame_addresses (s : State) :
    getER (if exrValid s.cfg then raiseSp 2 (beforeCycle s) else s) 7 = getER s 7 + (if exrValid s.cfg then 2 else 0) ∧
      getER (if exrValid s.cfg then raiseSp 2 (beforeCycle s) else s) 7 + 2 =
        getER s 7 + (if exrValid s.cfg then 4 else 2) := by
  cases exrValid s.cfg <;> simp only [Bool.false_eq_true, if_false, if_true]
  · exact ⟨(BitVec.add_zero _).symm, trivial⟩
  · rw [getER_raiseSp, getER_beforeCycle, BitVec.add_assoc]; exact ⟨rfl, rfl⟩

/-- What the words after that of EXR are read from. -/
theorem exrRead_sameBus (s : State) : SameBus (exrRead s) (if exrValid s.cfg then raiseSp 2 (beforeCycle s) else s) := by
  unfold exrRead
  split <;> exact ⟨rfl, rfl, rfl, rfl⟩

/-- Everything returning from an exception does. -/
theorem returnFromException_spec (s : State) : ReturnsFromException s (returnFromException s) := by
  obtain ⟨ha, ha2⟩ := frame_addresses s
  obtain ⟨h7, ho⟩ := raise_frame s
  have hx := exrRead_sameBus s
  have her : (returnFromException s).er = (raiseSp 4 (if exrValid s.cfg then raiseSp 2 s else s)).er := by
    simp only [returnFromException, popFrame]
    cases exrValid s.cfg <;> cases s.cfg.mode <;> rfl
  constructor
  · exact (getER_congr 7 her).trans h7
  · exact fun n hn => (getER_congr n her).trans (ho n hn)
  · rw [← read16_high, ← hx.read16, ← ha, ← ofByte_eq]
    simp only [returnFromException, popFrame, sp]
    cases s.cfg.mode <;> rfl
  · simp only [← hx.read16, ← hx.beforeCycle.read16, ← ha2]
    rw [← ha]
    simp only [returnFromException, popFrame, sp]
    cases hv : exrValid s.cfg <;> cases hm : s.cfg.mode <;> simp [hm]
  · intro k
    have h := (hx.beforeCycles 2).mem
    rw [← h]
    simp only [returnFromException, popFrame]
    cases exrValid s.cfg <;> cases s.cfg.mode <;> rfl
  · simp only [returnFromException, popFrame, sp, read16_high, exrRead]
    cases exrValid s.cfg <;> cases s.cfg.mode <;> constructor <;> simp [Exr.ofByte, exrOf] <;> rfl

end Sys2Proof.Machine
end

