-- ==== Sys2Proof/Laws/Lists.lean ====
section
/-! SUPPORT. What the loops of STM, LDM and EEPMOV do, in closed form (R189, R190, R451, R452). -/

namespace Sys2Proof.Machine

/-- Steps of `k` bytes: the first one and the rest. -/
theorem step_sub (a k : Long) (j : Nat) : a - k - k * BitVec.ofNat 32 (j + 1) = a - k * BitVec.ofNat 32 (j + 1 + 1) := by
  rw [show BitVec.ofNat 32 (j + 1 + 1) = 1 + BitVec.ofNat 32 (j + 1) by rw [Nat.add_comm (j + 1) 1, BitVec.ofNat_add]; rfl,
    BitVec.mul_add, show k * 1 = k from BitVec.mul_one k, BitVec.sub_sub]

theorem step_add (a : Long) (j : Nat) : a + 1 + BitVec.ofNat 32 j = a + BitVec.ofNat 32 (j + 1) := by
  rw [Nat.add_comm j 1, BitVec.ofNat_add, BitVec.add_assoc]; rfl

theorem step_add4 (a : Long) (j : Nat) : a + 4 + 4 * BitVec.ofNat 32 j = a + 4 * BitVec.ofNat 32 (j + 1) := by
  rw [Nat.add_comm j 1, BitVec.ofNat_add, BitVec.mul_add, BitVec.add_assoc]; rfl

theorem fin_step (r : RegNum) (j : Nat) : r + 1 + Fin.ofNat 8 j = r + Fin.ofNat 8 (j + 1) := by
  apply Fin.ext
  simp only [Fin.val_add, Fin.val_ofNat, Fin.val_one]
  omega

/-! ### Stores one after the other -/

/-- A fold of steps that each depend on what a bus cycle depends on only. -/
theorem SameBus.foldl {f : State → Nat → State} (hf : ∀ {s t : State} (j : Nat), SameBus s t → SameBus (f s j) (f t j))
    (l : List Nat) {s t : State} (h : SameBus s t) : SameBus (l.foldl f s) (l.foldl f t) := by
  induction l generalizing s t with
  | nil => exact h
  | cons j l ih => exact ih (hf j h)

theorem SameBus.foldl_write32 (a v : Nat → Long) (l : List Nat) {s t : State} (h : SameBus s t) :
    SameBus (l.foldl (fun u j => Sys2Proof.Machine.write32 u (a j) (v j)) s)
      (l.foldl (fun u j => Sys2Proof.Machine.write32 u (a j) (v j)) t) :=
  SameBus.foldl (fun j h => h.write32 (a j) (v j)) l h

/-- From `s` to `t` only what bus cycles change, and what general registers, PC and CCR hold, is another. -/
structure BusOnly (s t : State) : Prop where
  untouched : Untouched { s with env := t.env, writes := t.writes } t
  env : SameEnv s t

theorem BusOnly.refl (s : State) : BusOnly s s := ⟨by constructor <;> rfl, rfl⟩

theorem BusOnly.trans {s t u : State} (h : BusOnly s t) (h' : BusOnly t u) : BusOnly s u := by
  obtain ⟨h, e⟩ := h
  obtain ⟨h', e'⟩ := h'
  exact ⟨⟨h'.cfg.trans h.cfg, rfl, h'.exr.trans h.exr, h'.mach.trans h.mach, h'.macl.trans h.macl,
    h'.nMult.trans h.nMult, h'.zMult.trans h.zMult, h'.vMult.trans h.vMult, h'.procState.trans h.procState,
    h'.inhibit.trans h.inhibit, h'.noTrace.trans h.noTrace, h'.stale.trans h.stale, rfl, h'.draws.trans h.draws⟩, e.trans e'⟩

theorem busOnly_beforeCycles (n : Nat) (s : State) : BusOnly s (beforeCycles n s) := ⟨by constructor <;> rfl, rfl⟩

/-- A fold of steps that each change what bus cycles change only. -/
theorem busOnly_foldl {f : State → Nat → State} (hf : ∀ u j, BusOnly u (f u j)) (l : List Nat) (s : State) :
    BusOnly s (l.foldl f s) := by
  induction l generalizing s with
  | nil => exact BusOnly.refl s
  | cons j l ih => exact (hf s j).trans (ih (f s j))

/-- Two states that differ from `s` in what bus cycles change only, and agree in that. -/
theorem BusOnly.untouched_of {s t u : State} (ht : BusOnly s t) (hu : BusOnly s u) (hb : SameBus t u) : Untouched t u := by
  obtain ⟨ht, et⟩ := ht
  obtain ⟨hu, eu⟩ := hu
  refine ⟨hb.cfg, ?_, hu.exr.trans ht.exr.symm, hu.mach.trans ht.mach.symm, hu.macl.trans ht.macl.symm,
    hu.nMult.trans ht.nMult.symm, hu.zMult.trans ht.zMult.symm, hu.vMult.trans ht.vMult.symm,
    hu.procState.trans ht.procState.symm, hu.inhibit.trans ht.inhibit.symm, hu.noTrace.trans ht.noTrace.symm,
    hu.stale.trans ht.stale.symm, hb.writes, hu.draws.trans ht.draws.symm⟩
  rw [et, eu, hb.acts]

/-! ### STM -/

/-- The fields that STM's stores leave. -/
theorem stmStores_rest (n : Nat) (r : RegNum) (s : State) : BusOnly s (stmStores n r s) :=
  busOnly_foldl (fun u j => by constructor; constructor <;> rfl; rfl) _ s

/-- The fields that STM's loop leaves. -/
theorem storeRegs_rest (n : Nat) (r : RegNum) (s : State) :
    (storeRegs n r s).ccr = s.ccr ∧ (storeRegs n r s).pc = s.pc ∧ BusOnly s (storeRegs n r s) := by
  induction n generalizing r s with
  | zero => exact ⟨rfl, rfl, BusOnly.refl s⟩
  | succ n ih =>
    obtain ⟨h1, h2, h3⟩ := ih (r + 1) (write32 (lowerSp 4 s) (getER (lowerSp 4 s) sp) (getER (lowerSp 4 s) r))
    exact ⟨h1, h2, BusOnly.trans (t := write32 (lowerSp 4 s) _ _) ⟨by constructor <;> rfl, rfl⟩ h3⟩

/-- STM: ER7 ends below the slots, no other register changes, and the slots have been stored. -/
theorem storeRegs_spec (n : Nat) (r : RegNum) (s : State) :
    getER (storeRegs n r s) 7 = getER s 7 - 4 * BitVec.ofNat 32 n ∧ OtherRegisters 7 s (storeRegs n r s) ∧
      SameBus (stmStores n r s) (storeRegs n r s) := by
  induction n generalizing r s with
  | zero => exact ⟨by simp [storeRegs], fun _ _ => rfl, SameBus.refl s⟩
  | succ n ih =>
    have h7 : getER (lowerSp 4 s) 7 = getER s 7 - 4 := getER_lowerSp 4 s
    obtain ⟨h1, h2, h3⟩ := ih (r + 1) (write32 (lowerSp 4 s) (getER (lowerSp 4 s) sp) (getER (lowerSp 4 s) r))
    have hr : getER (lowerSp 4 s) r = if r = 7 then getER s 7 - 4 else getER s r := by
      split
      · subst_vars; exact h7
      · exact lowerSp_others 4 s r ‹_›
    refine ⟨?_, fun m hm => (h2 m hm).trans (lowerSp_others 4 s m hm), ?_⟩
    · refine h1.trans ?_
      rw [getER_write32, h7, Nat.add_comm n 1, BitVec.ofNat_add, BitVec.mul_add, BitVec.sub_sub]; rfl
    · refine SameBus.trans ?_ h3
      simp only [stmStores, List.range_succ_eq_map, List.foldl_cons, List.foldl_map]
      have hf : (fun (u : State) (j : Nat) =>
          write32 u (getER (write32 (lowerSp 4 s) (getER (lowerSp 4 s) sp) (getER (lowerSp 4 s) r)) 7 -
              4 * BitVec.ofNat 32 (j + 1))
            (if r + 1 + Fin.ofNat 8 j = 7 then
              getER (write32 (lowerSp 4 s) (getER (lowerSp 4 s) sp) (getER (lowerSp 4 s) r)) 7 - 4 * BitVec.ofNat 32 (j + 1)
            else getER (write32 (lowerSp 4 s) (getER (lowerSp 4 s) sp) (getER (lowerSp 4 s) r)) (r + 1 + Fin.ofNat 8 j))) =
          fun u j =>
            write32 u (getER s 7 - 4 * BitVec.ofNat 32 (j + 1 + 1))
              (if r + Fin.ofNat 8 (j + 1) = 7 then getER s 7 - 4 * BitVec.ofNat 32 (j + 1 + 1)
              else getER s (r + Fin.ofNat 8 (j + 1))) := by
        funext u j
        rw [getER_write32, h7, step_sub, fin_step]
        congr 1
        split
        · rfl
        · exact lowerSp_others 4 s _ ‹_›
      rw [hf]
      refine SameBus.foldl_write32 _ _ _ ?_
      have e1 : (4 : Long) * BitVec.ofNat 32 (0 + 1) = 4 := rfl
      have e2 : r + Fin.ofNat 8 0 = r := by apply Fin.ext; simp
      rw [e1, e2, ← hr, show getER (lowerSp 4 s) sp = getER s 7 - 4 from h7]
      exact SameBus.write32 (s := s) (t := lowerSp 4 s) ⟨rfl, rfl, rfl, rfl⟩ _ _

/-- STM reaches the bytes of its slots only. -/
theorem stmStores_agreeAt (n : Nat) (r : RegNum) (s : State) {k : Nat} (hk : k ∉ stmKeys n s) :
    AgreeAt k (beforeCycles (2 * n) s) (stmStores n r s) := by
  induction n with
  | zero => rw [Nat.mul_zero, beforeCycles_zero]; exact AgreeAt.refl k s
  | succ n ih =>
    simp only [stmKeys, List.range_succ, List.flatMap_append, List.mem_append, not_or, List.flatMap_cons,
      List.flatMap_nil, List.append_nil] at hk
    simp only [stmStores, List.range_succ, List.foldl_append, List.foldl_cons, List.foldl_nil]
    have hc : (stmStores n r s).cfg = s.cfg := (stmStores_rest n r s).untouched.cfg
    have h := (ih hk.1).beforeCycles 2
    rw [beforeCycles_add] at h
    exact h.trans (write32_agreeAt (stmStores n r s) _ _ (by rw [hc]; exact hk.2))

/-! ### LDM -/

theorem fin_sub_step (r : RegNum) (j : Nat) : r - 1 - Fin.ofNat 8 j = r - Fin.ofNat 8 (j + 1) := by
  apply Fin.ext
  simp only [Fin.sub_def, Fin.val_ofNat, Fin.val_one]
  omega

/-- The state after one of LDM's loads. -/
theorem loadOne (s : State) (r : RegNum) (a : Long) :
    let u := if r = sp then beforeCycles 2 s else setER (beforeCycles 2 s) r (read32 s a)
    SameBus (beforeCycles 2 s) u ∧ u.ccr = s.ccr ∧ u.pc = s.pc ∧ BusOnly s u := by
  intro u
  simp only [u]
  split
  · exact ⟨SameBus.refl _, rfl, rfl, busOnly_beforeCycles 2 s⟩
  · exact ⟨⟨rfl, rfl, rfl, rfl⟩, rfl, rfl, by constructor <;> rfl, rfl⟩

/-- The fields that LDM's loop leaves. -/
theorem loadRegs_rest (n : Nat) (r : RegNum) (a : Long) (s : State) :
    SameBus (beforeCycles (2 * n) s) (loadRegs n r a s) ∧ (loadRegs n r a s).ccr = s.ccr ∧ (loadRegs n r a s).pc = s.pc ∧
      BusOnly s (loadRegs n r a s) := by
  induction n generalizing r a s with
  | zero => exact ⟨by rw [Nat.mul_zero, beforeCycles_zero]; exact SameBus.refl s, rfl, rfl, BusOnly.refl s⟩
  | succ n ih =>
    obtain ⟨h1, h2, h3, h4⟩ :=
      ih (r - 1) (a + 4) (if r = sp then beforeCycles 2 s else setER (beforeCycles 2 s) r (read32 s a))
    obtain ⟨q1, q2, q3, q4⟩ := loadOne s r a
    have q1 := q1.beforeCycles (2 * n)
    rw [beforeCycles_add, Nat.add_comm] at q1
    exact ⟨q1.trans h1, h2.trans q2, h3.trans q3, q4.trans h4⟩

/-- LDM: register `r - j` takes the longword `4 j` bytes on; ER7 and the registers outside the list are kept. -/
theorem loadRegs_spec (n : Nat) (hn : n ≤ 8) (r : RegNum) (a : Long) (s : State) :
    (∀ j, j < n → r - Fin.ofNat 8 j ≠ 7 →
        getER (loadRegs n r a s) (r - Fin.ofNat 8 j) =
          read32 (beforeCycles (2 * j) s) (a + 4 * BitVec.ofNat 32 j)) ∧
      (∀ m, (m = 7 ∨ ∀ j, j < n → m ≠ r - Fin.ofNat 8 j) → getER (loadRegs n r a s) m = getER s m) := by
  induction n generalizing r a s with
  | zero => exact ⟨fun j h => absurd h (by omega), fun _ _ => rfl⟩
  | succ n ih =>
    obtain ⟨h1, h2⟩ :=
      ih (by omega) (r - 1) (a + 4) (if r = sp then beforeCycles 2 s else setER (beforeCycles 2 s) r (read32 s a))
    have hbus (k : Nat) := ((loadOne s r a).1).beforeCycles k
    have hother (m : RegNum) (hm : m = 7 ∨ m ≠ r) :
        getER (if r = sp then beforeCycles 2 s else setER (beforeCycles 2 s) r (read32 s a)) m = getER s m := by
      split
      · rfl
      · exact getER_setER_ne (beforeCycles 2 s) _ (by rcases hm with rfl | hm <;> [exact fun e => ‹¬r = sp› e.symm; exact hm])
    refine ⟨fun j hj hne => ?_, fun m hm => ?_⟩
    · cases j with
      | zero =>
        have e : r - Fin.ofNat 8 0 = r := by apply Fin.ext; simp
        rw [e] at hne ⊢
        have hr : ∀ j, j < n → r ≠ r - 1 - Fin.ofNat 8 j := by
          intro j hj he
          have := congrArg Fin.val he
          simp only [Fin.sub_def, Fin.val_ofNat, Fin.val_one] at this
          omega
        refine (h2 r (Or.inr hr)).trans ?_
        rw [if_neg (show ¬ r = sp from hne), getER_setER_same, Nat.mul_zero, beforeCycles_zero]
        exact congrArg _ (BitVec.add_zero a).symm
      | succ j =>
        rw [← fin_sub_step] at hne ⊢
        refine (h1 j (by omega) hne).trans ?_
        rw [(hbus _).read32, step_add4, beforeCycles_add, Nat.mul_succ, Nat.add_comm]
    · refine (h2 m ?_).trans (hother m ?_)
      · rcases hm with hm | hm
        · exact Or.inl hm
        · exact Or.inr fun j hj => by rw [fin_sub_step]; exact hm (j + 1) (by omega)
      · rcases hm with hm | hm
        · exact Or.inl hm
        · have h0 := hm 0 (by omega)
          have e : r - Fin.ofNat 8 0 = r := by apply Fin.ext; simp
          rw [e] at h0
          exact Or.inr h0

/-! ### EEPMOV -/

/-- One byte moved: memory, ER5, ER6, and nothing else. -/
theorem copyByte_spec (s : State) :
    SameBus (movedBytes 1 s) (copyByte s) ∧ getER (copyByte s) 5 = getER s 5 + 1 ∧ getER (copyByte s) 6 = getER s 6 + 1 ∧
      (∀ m, m ≠ 5 → m ≠ 6 → getER (copyByte s) m = getER s m) ∧ (copyByte s).ccr = s.ccr ∧ (copyByte s).pc = s.pc ∧
      BusOnly s (copyByte s) := by
  have h1 : movedBytes 1 s = write8 (beforeCycle s) (getER s 6) (read8 s (getER s 5)) := by simp [movedBytes]
  refine ⟨?_, ?_, ?_, fun m h5 h6 => ?_, rfl, rfl, by constructor <;> rfl, rfl⟩
  · rw [h1]; exact ⟨rfl, rfl, rfl, rfl⟩
  · simp only [copyByte]; rw [getER_setER_ne _ _ (by decide), getER_setER_same, getER_write8, getER_beforeCycle]
  · simp only [copyByte]; rw [getER_setER_same, getER_setER_ne _ _ (by decide), getER_write8, getER_beforeCycle]
  · simp only [copyByte]; rw [getER_setER_ne _ _ h6, getER_setER_ne _ _ h5, getER_write8, getER_beforeCycle]

/-- The fields that a block transfer's stores leave. -/
theorem movedBytes_rest (n : Nat) (s : State) : BusOnly s (movedBytes n s) :=
  busOnly_foldl (fun u j => by constructor; constructor <;> rfl; rfl) _ s

/-- The first byte moved and the rest. -/
theorem movedBytes_succ (n : Nat) (s t : State) (h : SameBus (movedBytes 1 s) t) (h5 : getER t 5 = getER s 5 + 1)
    (h6 : getER t 6 = getER s 6 + 1) : SameBus (movedBytes (n + 1) s) (movedBytes n t) := by
  simp only [movedBytes, List.range_succ_eq_map, List.foldl_cons, List.foldl_map, h5, h6, step_add, List.range_zero,
    List.map_nil, List.foldl_nil] at h ⊢
  refine SameBus.foldl (fun j hs => ?_) _ h
  rw [hs.read8]
  exact hs.beforeCycle.write8 _ _

/-- A block transfer reaches the bytes of its destination only. -/
theorem movedBytes_agreeAt (n : Nat) (s : State) {k : Nat} (hk : k ∉ movedKeys n s) :
    AgreeAt k (beforeCycles (2 * n) s) (movedBytes n s) := by
  induction n with
  | zero => rw [Nat.mul_zero, beforeCycles_zero]; exact AgreeAt.refl k s
  | succ n ih =>
    simp only [movedKeys, List.range_succ, List.map_append, List.mem_append, not_or, List.map_cons, List.map_nil,
      List.mem_singleton] at hk
    simp only [movedBytes, List.range_succ, List.foldl_append, List.foldl_cons, List.foldl_nil]
    have hc : (movedBytes n s).cfg = s.cfg := (movedBytes_rest n s).untouched.cfg
    have h := (ih hk.1).beforeCycles 2
    rw [beforeCycles_add, ← beforeCycles_succ 1 (movedBytes n s)] at h
    exact h.trans (write8_agreeAt (beforeCycle (movedBytes n s)) _ _ (by rw [beforeCycle_cfg, hc]; exact hk.2))

theorem getER_setReg8_l4 (s : State) (v : Byte) {m : RegNum} (h : m ≠ 4) : getER (setReg8 s (.l 4) v) m = getER s m :=
  getER_setER_ne s _ h

theorem getER_setReg16_r4 (s : State) (v : Half) {m : RegNum} (h : m ≠ 4) : getER (setReg16 s (.r 4) v) m = getER s m :=
  getER_setER_ne s _ h

theorem ofNat_succ_sub {w : Nat} (v : BitVec w) (n : Nat) : v - 1#w - BitVec.ofNat w n = v - BitVec.ofNat w (n + 1) := by
  rw [BitVec.sub_sub, Nat.add_comm n 1, BitVec.ofNat_add]

/-- One byte of a block transfer, then a state that differs in R4 and the offers only, then the rest. -/
theorem blockMoved_succ (n : Nat) (s t u : State) (hm : SameBus (copyByte s) t)
    (hr : ∀ m, m ≠ 4 → getER t m = getER (copyByte s) m) (he : getReg16 t (.e 4) = getReg16 (copyByte s) (.e 4))
    (hc : t.ccr = s.ccr) (hi : t.env.inputs = s.env.inputs) (ht : Untouched { copyByte s with env := t.env } t)
    (h : BlockMoved n t u) : BlockMoved (n + 1) s u := by
  obtain ⟨c1, c2, c3, c4, c5, c6, c7⟩ := copyByte_spec s
  have e5 : getER t 5 = getER s 5 + 1 := (hr 5 (by decide)).trans c2
  have e6 : getER t 6 = getER s 6 + 1 := (hr 6 (by decide)).trans c3
  have e4 : getReg16 (copyByte s) (.e 4) = getReg16 s (.e 4) := by
    simp only [getReg16]; rw [c4 4 (by decide) (by decide)]
  have hs : SameBus (movedBytes (n + 1) s) (movedBytes n t) := movedBytes_succ n s t (c1.trans hm) e5 e6
  have hmem : u.mem = (movedBytes (n + 1) s).mem := h.memory.trans hs.mem
  have ma := movedBytes_rest (n + 1) s
  have mb := movedBytes_rest n t
  constructor
  · exact hmem
  · exact fun k hk => by rw [hmem]; exact (movedBytes_agreeAt _ _ hk).byte
  · rw [h.source, e5, step_add]
  · rw [h.target, e6, step_add]
  · rw [h.upper, he, e4]
  · exact fun m m4 m5 m6 => by rw [h.others m m4 m5 m6, hr m m4, c4 m m5 m6]
  · rw [h.ccr, hc]
  · rw [h.inputs, hi]
  · exact h.acts.trans hs.acts
  · obtain ⟨ma, -⟩ := ma
    obtain ⟨mb, -⟩ := mb
    obtain ⟨c7, -⟩ := c7
    have hb : Untouched { { copyByte s with writes := u.writes } with env := u.env } u :=
      ⟨h.rest.cfg.trans (mb.cfg.trans ht.cfg), rfl, h.rest.exr.trans (mb.exr.trans ht.exr),
        h.rest.mach.trans (mb.mach.trans ht.mach), h.rest.macl.trans (mb.macl.trans ht.macl),
        h.rest.nMult.trans (mb.nMult.trans ht.nMult), h.rest.zMult.trans (mb.zMult.trans ht.zMult),
        h.rest.vMult.trans (mb.vMult.trans ht.vMult), h.rest.procState.trans (mb.procState.trans ht.procState),
        h.rest.inhibit.trans (mb.inhibit.trans ht.inhibit), h.rest.noTrace.trans (mb.noTrace.trans ht.noTrace),
        h.rest.stale.trans (mb.stale.trans ht.stale), rfl,
        h.rest.draws.trans (mb.draws.trans ht.draws)⟩
    exact ⟨hb.cfg.trans (c7.cfg.trans ma.cfg.symm), rfl, hb.exr.trans (c7.exr.trans ma.exr.symm),
      hb.mach.trans (c7.mach.trans ma.mach.symm), hb.macl.trans (c7.macl.trans ma.macl.symm),
      hb.nMult.trans (c7.nMult.trans ma.nMult.symm), hb.zMult.trans (c7.zMult.trans ma.zMult.symm),
      hb.vMult.trans (c7.vMult.trans ma.vMult.symm), hb.procState.trans (c7.procState.trans ma.procState.symm),
      hb.inhibit.trans (c7.inhibit.trans ma.inhibit.symm), hb.noTrace.trans (c7.noTrace.trans ma.noTrace.symm),
      hb.stale.trans (c7.stale.trans ma.stale.symm), h.rest.writes.trans hs.writes,
       hb.draws.trans (c7.draws.trans ma.draws.symm)⟩

theorem blockMoved_zero (s : State) : BlockMoved 0 s s where
  memory := rfl
  outside := fun _ _ => by rw [Nat.mul_zero, beforeCycles_zero]
  source := (BitVec.add_zero _).symm
  target := (BitVec.add_zero _).symm
  upper := rfl
  others := fun _ _ _ _ => rfl
  ccr := rfl
  inputs := rfl
  acts := rfl
  rest := by constructor <;> rfl

/-- EEPMOV.B's loop: `n` bytes are moved, R4L goes down by `n`, and R4H, PC and the offers are kept. -/
theorem copyBytesB_spec (n : Nat) (s : State) :
    BlockMoved n s (copyBytesB n s) ∧ getReg8 (copyBytesB n s) (.l 4) = getReg8 s (.l 4) - BitVec.ofNat 8 n ∧
      getReg8 (copyBytesB n s) (.h 4) = getReg8 s (.h 4) ∧ (copyBytesB n s).pc = s.pc ∧ SameEnv s (copyBytesB n s) := by
  induction n generalizing s with
  | zero => exact ⟨blockMoved_zero s, (BitVec.sub_zero _).symm, rfl, rfl, rfl⟩
  | succ n ih =>
    have c4 : getER (copyByte s) 4 = getER s 4 := (copyByte_spec s).2.2.2.1 4 (by decide) (by decide)
    simp only [copyBytesB]
    generalize hv : getReg8 (copyByte s) (.l 4) - 1 = v
    obtain ⟨h1, h2, h3, h4, h5⟩ := ih (setReg8 (copyByte s) (.l 4) v)
    refine ⟨?_, ?_, ?_, h4, SameEnv.trans (t := setReg8 (copyByte s) (.l 4) v) rfl h5⟩
    · refine blockMoved_succ n s _ _ ?_ (fun m hm => getER_setReg8_l4 _ _ hm) (getReg16_e_setReg8 _ _ _ _) ?_ ?_ ?_ h1
      · exact ⟨setReg8_mem _ _ _, rfl, rfl, rfl⟩
      · exact setReg8_ccr _ _ _
      · rfl
      · constructor <;> rfl
    · rw [h2, getReg8_setReg8_same, ← hv]
      simp only [getReg8, c4]
      exact ofNat_succ_sub _ n
    · rw [h3, getReg8_setReg8_ne _ _ (by decide)]
      simp only [getReg8, c4]

/-- Whether a request is accepted depends on the offers, the masks and the inhibit window only. -/
theorem acceptedRequest_congr {s t : State} (he : t.env.offers = s.env.offers) (hc : t.cfg = s.cfg) (hccr : t.ccr = s.ccr)
    (hx : t.exr = s.exr) (hi : t.inhibit = s.inhibit) : acceptedRequest t = acceptedRequest s := by
  simp only [acceptedRequest, offeredRequest, maskedRequest, he, hc, hccr, hx, hi]
  rfl

theorem passOffer_fields (s : State) :
    (passOffer s).er = s.er ∧ (passOffer s).mem = s.mem ∧ (passOffer s).ccr = s.ccr ∧ (passOffer s).pc = s.pc ∧
      (passOffer s).env.inputs = s.env.inputs ∧ Untouched { s with env := (passOffer s).env } (passOffer s) := by
  unfold passOffer
  split <;> exact ⟨rfl, rfl, rfl, rfl, rfl, by constructor <;> rfl⟩

theorem laterOffers_eq (l : List (Option Request)) : laterOffers l = l.drop (min 1 (l.length - 1)) := by
  match l with
  | [] => rfl
  | [_] => rfl
  | _ :: _ :: _ => simp [laterOffers]

/-- Passing an offer inside an instruction brings up the offers of the next examination (D13) and changes nothing else. -/
theorem passOfferInside_fields (s : State) :
    (passOfferInside s).env = { s.env with offers := offersAt 2 s } ∧ (passOfferInside s).er = s.er ∧
      (passOfferInside s).ccr = s.ccr ∧ (passOfferInside s).pc = s.pc ∧ (passOfferInside s).mem = s.mem ∧
      Untouched { s with env := (passOfferInside s).env } (passOfferInside s) := by
  unfold passOfferInside offersAt
  cases s.cfg.granularity
  · exact ⟨rfl, rfl, rfl, rfl, rfl, by constructor <;> rfl⟩
  · obtain ⟨h1, h2, h3, h4, h5, h6⟩ := passOffer_fields s
    refine ⟨?_, h1, h3, h4, h2, h6⟩
    unfold passOffer
    cases hi : s.inhibit
    · simp [laterOffers_eq]
    · simp

/-- The offers one examination on. -/
theorem offersAt_later (k : Nat) (s : State) {t : State} (hc : t.cfg = s.cfg) (hi : t.inhibit = s.inhibit)
    (ho : t.env.offers = offersAt 2 s) : offersAt (k + 1) t = offersAt (k + 2) s := by
  unfold offersAt at ho ⊢
  rw [hc, hi, ho]
  cases s.cfg.granularity
  · rfl
  · cases s.inhibit
    · simp only [Bool.false_eq_true, if_false, List.drop_drop, List.length_drop]
      congr 1
      omega
    · rfl

theorem acceptedAt_later (k : Nat) (s : State) {t : State} (hc : t.cfg = s.cfg) (hccr : t.ccr = s.ccr) (hx : t.exr = s.exr)
    (hi : t.inhibit = s.inhibit) (ho : t.env.offers = offersAt 2 s) : acceptedAt (k + 1) t = acceptedAt (k + 2) s := by
  unfold acceptedAt
  rw [acceptedRequest_congr (s := { s with env := { s.env with offers := offersAt (k + 2) s } })
    (t := { t with env := { t.env with offers := offersAt (k + 1) t } }) (offersAt_later k s hc hi ho) hc hccr hx hi]

/-- The first examination sees the offers as they are. -/
theorem offersAt_one (s : State) : offersAt 1 s = s.env.offers := by
  unfold offersAt
  cases s.cfg.granularity <;> cases s.inhibit <;> simp

theorem acceptedAt_one (s : State) : acceptedAt 1 s = (acceptedRequest s).isSome := by
  unfold acceptedAt
  rw [offersAt_one]

/-- EEPMOV.W's loop: `j` of the `n` bytes are moved, `j` being the first byte after which a request is accepted, or all of them;
the offers are those of the examination after byte `j` where that accepts one, else those of the next. -/
theorem copyBytesW_spec (n : Nat) (s : State) :
    ∃ j, j ≤ n ∧ (∀ k, 0 < k → k < j → acceptedAt k s = false) ∧ (j = n ∨ 0 < j ∧ acceptedAt j s = true) ∧
      BlockMoved j s (copyBytesW n s) ∧
      getReg16 (copyBytesW n s) (.r 4) = getReg16 s (.r 4) - BitVec.ofNat 16 j ∧ (copyBytesW n s).pc = s.pc ∧
      (copyBytesW n s).env =
        { s.env with
          offers := offersAt (if 0 < j ∧ acceptedAt j s = true then j else j + 1) s
          acts := (copyBytesW n s).env.acts } := by
  induction n generalizing s with
  | zero =>
    refine ⟨0, le_refl 0, fun k _ h => absurd h (by omega), .inl rfl, blockMoved_zero s, (BitVec.sub_zero _).symm, rfl, ?_⟩
    simp [offersAt_one, copyBytesW]
  | succ n ih =>
    have c4 : getER (copyByte s) 4 = getER s 4 := (copyByte_spec s).2.2.2.1 4 (by decide) (by decide)
    have hl : getReg16 (copyByte s) (.r 4) = getReg16 s (.r 4) := by simp only [getReg16, c4]
    simp only [copyBytesW]
    generalize hv : getReg16 (copyByte s) (.r 4) - 1 = v
    rw [hl] at hv
    have hacc : acceptedRequest (setReg16 (copyByte s) (.r 4) v) = acceptedRequest s :=
      acceptedRequest_congr rfl rfl rfl rfl rfl
    rw [hacc, ← acceptedAt_one]
    cases hq : acceptedAt 1 s with
    | true =>
      rw [if_pos rfl]
      refine ⟨1, by omega, fun k h h' => absurd h (by omega), .inr ⟨by omega, hq⟩, ?_, ?_, rfl, ?_⟩
      · refine blockMoved_succ 0 s _ _ ⟨setReg16_mem _ _ _, rfl, rfl, rfl⟩ (fun m hm => getER_setReg16_r4 _ _ hm) ?_ ?_ ?_ ?_
          (blockMoved_zero _)
        · exact getReg16_setReg16_ne _ _ (by decide)
        · exact setReg16_ccr _ _ _
        · rfl
        · constructor <;> rfl
      · rw [getReg16_setReg16_same, ← hv]; rfl
      · simp [hq, offersAt_one]; rfl
    | false =>
      rw [if_neg (by simp)]
      obtain ⟨p1, p2, p3, p4, p5, p6⟩ := passOfferInside_fields (setReg16 (copyByte s) (.r 4) v)
      have hE : offersAt 2 (setReg16 (copyByte s) (.r 4) v) = offersAt 2 s := rfl
      have p1 : (passOfferInside (setReg16 (copyByte s) (.r 4) v)).env =
          { s.env with offers := offersAt 2 s, acts := (copyByte s).env.acts } := hE ▸ p1
      generalize passOfferInside (setReg16 (copyByte s) (.r 4) v) = t at p1 p2 p3 p4 p5 p6 ⊢
      obtain ⟨j, h1, h2, h3, h4, h5, h6, h7⟩ := ih t
      have po : t.env.offers = offersAt 2 s := by rw [p1]
      have ha (k : Nat) : acceptedAt (k + 1) t = acceptedAt (k + 2) s :=
        acceptedAt_later k s p6.cfg p3 p6.exr p6.inhibit po
      have ho (k : Nat) : offersAt (k + 1) t = offersAt (k + 2) s := offersAt_later k s p6.cfg p6.inhibit po
      refine ⟨j + 1, by omega, fun k hk hk' => ?_, ?_, ?_, ?_, h6.trans p4, ?_⟩
      · match k with
        | 1 => exact hq
        | k + 2 => rw [← ha k]; exact h2 (k + 1) (by omega) (by omega)
      · rcases h3 with h3 | ⟨h3, h3'⟩
        · exact .inl (by omega)
        · obtain ⟨i, rfl⟩ : ∃ i, j = i + 1 := ⟨j - 1, by omega⟩
          exact .inr ⟨by omega, (ha i).symm.trans h3'⟩
      · refine blockMoved_succ j s t _ ⟨p5, p6.writes, p6.cfg, by rw [p1]⟩ (fun m hm => ?_) ?_ ?_ ?_ ?_ h4
        · exact (getER_congr m p2).trans (getER_setReg16_r4 _ _ hm)
        · exact (getReg16_congr _ p2).trans (getReg16_setReg16_ne _ _ (by decide))
        · exact p3.trans (setReg16_ccr _ _ _)
        · rw [p1]; rfl
        · exact ⟨p6.cfg, rfl, p6.exr, p6.mach, p6.macl, p6.nMult, p6.zMult, p6.vMult, p6.procState, p6.inhibit, p6.noTrace,
            p6.stale, p6.writes, p6.draws⟩
      · rw [h5, getReg16_congr _ p2, getReg16_setReg16_same, ← hv]; exact ofNat_succ_sub _ j
      · rw [h7, p1]
        match j with
        | 0 => simp [hq, ho]
        | j + 1 =>
          simp only [ha, Nat.zero_lt_succ, true_and]
          split <;> rw [ho]

end Sys2Proof.Machine
end

