-- ==== Sys2Proof/Laws/Multiply.lean ====
section
/-! SUPPORT. Products, quotients, extensions and accumulation in the terms of integer arithmetic (R261 to R280), and the decimal
tables (R234, R235). -/

namespace Sys2Proof.Machine

theorem setNZ_eq {w : Nat} (v : BitVec w) (c : Ccr) :
    setNZ v c = { c with n := decide (v.toInt < 0), z := decide (v.toNat = 0) } := by
  rw [setNZ, msb_eq_toInt, beq_zero_eq_toNat]

/-- A register is written and CCR is kept. -/
theorem setsRegister_keep {w : Nat} (len : BitVec 24) (rd : Reg w) (v : BitVec w) (s : State) :
    SetsRegister len rd v s.ccr s (advance len (rd.put v s)) := by
  have h : setCcr (rd.put v s) s.ccr = rd.put v s := by cases rd <;> rename_i r <;> (try cases r) <;> rfl
  exact h ▸ setsRegister_put len rd v s.ccr s

/-! ### Products -/

theorem mulUnsigned_eq {w n : Nat} (a b : BitVec w) : mulUnsigned n a b = BitVec.ofNat n (a.toNat * b.toNat) := by
  apply BitVec.eq_of_toNat_eq
  simp [mulUnsigned, BitVec.toNat_mul, Nat.mul_mod]

theorem mulSigned_eq {w n : Nat} (h : w ≤ n) (a b : BitVec w) : mulSigned n a b = BitVec.ofInt n (a.toInt * b.toInt) := by
  apply BitVec.eq_of_toInt_eq
  rw [mulSigned, BitVec.toInt_mul, BitVec.toInt_ofInt, BitVec.toInt_signExtend_of_le h, BitVec.toInt_signExtend_of_le h]

theorem putProduct_spec {n : Nat} (len : BitVec 24) (rd : Reg n) (p : BitVec n) (s : State) :
    SetsRegister len rd p { s.ccr with n := decide (p.toInt < 0), z := decide (p.toNat = 0) } s (putProduct len rd p s) := by
  rw [putProduct, setNZ_eq]
  exact setsRegister_put len rd p _ s

/-! ### Quotients -/

theorem remQuot_eq {w : Nat} (r q : BitVec w) : remQuot (w + w) r q = r ++ q := by
  apply BitVec.eq_of_getLsbD_eq
  intro i hi
  simp only [remQuot, BitVec.getLsbD_or, BitVec.getLsbD_shiftLeft, BitVec.getLsbD_setWidth, BitVec.getLsbD_append]
  by_cases h : i < w
  · simp [h, hi]
  · have hw : i - w < w := by omega
    simp [h, hi, BitVec.getLsbD_of_ge q i (by omega), show i - w < w + w by omega]

/-- A division's result where it is assured, a free value where it is not (D17). -/
theorem putQuotient_spec {n : Nat} {len : BitVec 24} {rd : Reg n} {s : State} {assured : Prop} {v : BitVec n}
    {result : Option (BitVec n)} {c : Ccr} (h : assured → result = some v) (h' : ¬ assured → result = none) :
    Divides len rd assured v c s (.next (putQuotient len rd result c s)) := by
  refine ⟨_, rfl, fun ha => ?_, fun ha => ⟨freeBits n s, ?_⟩⟩
  · rw [h ha]
    exact setsRegister_put len rd v c s
  · rw [h' ha]
    exact setsRegister_put len rd (freeBits n s) c (drawn s)

/-! ### Extensions -/

theorem extuOp_eq {w : Nat} (half : Nat) (d : BitVec w) (c : Ccr) :
    extuOp half d c = (BitVec.ofNat w (d.toNat % 2 ^ half), resultFlags (BitVec.ofNat w (d.toNat % 2 ^ half)) c) := by
  have h : (d.setWidth half).setWidth w = BitVec.ofNat w (d.toNat % 2 ^ half) := by apply BitVec.eq_of_toNat_eq; simp
  simp only [extuOp, setNZV0_eq, h]

theorem extsOp_eq {w : Nat} (half : Nat) (d : BitVec w) (c : Ccr) :
    extsOp half d c =
      (BitVec.ofInt w (d.setWidth half).toInt, resultFlags (BitVec.ofInt w (d.setWidth half).toInt) c) := by
  simp only [extsOp, setNZV0_eq, BitVec.signExtend]

/-! ### Accumulation -/

/-- A value cut in two and put together again. -/
theorem append_slices {a b : Nat} (v : BitVec (a + b)) : v.extractLsb' b a ++ v.extractLsb' 0 b = v := by
  apply BitVec.eq_of_getLsbD_eq
  intro i hi
  simp only [BitVec.getLsbD_append, BitVec.getLsbD_extractLsb']
  by_cases h : i < b
  · simp [h]
  · simp [h, show i - b < a by omega, show b + (i - b) = i by omega]

theorem macWrapping_spec (p : Int) (s : State) : AccumulatesWrapping p s (macWrapping p s) := by
  have h := append_slices (a := 10) (b := 32) (BitVec.ofInt 42 ((s.mach ++ s.macl).toInt + p))
  simp only [AccumulatesWrapping, macWrapping, msb_eq_toInt, h]
  refine ⟨trivial, trivial, beq_zero_eq_toNat _, ?_⟩
  simp only [Bool.or_eq_true, decide_eq_true_eq]
  tauto

theorem macSaturating_spec (p : Int) (s : State) : AccumulatesSaturating p s (macSaturating p s) := by
  simp only [AccumulatesSaturating, macSaturating, msb_eq_toInt]
  refine ⟨?_, trivial, beq_zero_eq_toNat _, ?_, ?_, fun j hj => ?_⟩
  · have hi : (0x7FFFFFFF#32).toInt = 2 ^ 31 - 1 := by decide
    have lo : (0x80000000#32).toInt = -2 ^ 31 := by decide
    split
    · rw [hi]; omega
    · split
      · rw [lo]; omega
      · rw [BitVec.toInt_ofInt, Int.bmod_def]; omega
  · simp only [Bool.or_eq_true, decide_eq_true_eq]
    tauto
  · simp only [BitVec.getLsbD_append]
    simp
  · simp only [BitVec.getLsbD_append, BitVec.getLsbD_extractLsb', if_neg (show ¬ j < 1 by omega)]
    by_cases h : j < 10
    · simp [show j - 1 < 9 by omega, show 1 + (j - 1) = j by omega]
    · rw [BitVec.getLsbD_of_ge s.mach j (by omega)]
      simp [show ¬ j - 1 < 9 by omega]

/-! ### Decimal adjustment -/

/-- DAA or DAS, when `row` is the function that the table lists. -/
theorem decimalAdjust_spec (table : List DecimalRow) (row : Bool → Bool → Nat → Nat → Option (Byte × Bool)) (rd : Reg8)
    (s : State)
    (listed : ∀ r ∈ table, ∀ (d : Byte) (c : Ccr), r.Covers d c →
      row c.c c.h (d.toNat / 16) (d.toNat % 16) = some (r.added, r.carry))
    (unlisted : ∀ (d : Byte) (c : Ccr), (∀ r ∈ table, ¬ r.Covers d c) → row c.c c.h (d.toNat / 16) (d.toNat % 16) = none) :
    Adjusts table rd s (.next (decimalAdjust 2 row rd s)) := by
  have hu (d : Byte) : (d.extractLsb' 4 4).toNat = d.toNat / 16 := by
    have := d.isLt
    simp [Nat.shiftRight_eq_div_pow]
    omega
  have hl (d : Byte) : (d.extractLsb' 0 4).toNat = d.toNat % 16 := by simp
  have hs := alterReg_spec 2 (.b rd) (decimalOp row (freeBits 8 s) (freeBits 5 (drawn s))) (drawn (drawn s))
  have hg : (Reg.b rd).get (drawn (drawn s)) = getReg8 s rd := get_congr (.b rd) rfl
  rw [hg, decimalOp, hu, hl, show (drawn (drawn s)).ccr = s.ccr from rfl] at hs
  refine ⟨_, rfl, fun r hr hc => ?_, fun hc => ?_⟩
  · rw [listed r hr _ _ hc] at hs
    simp only [setNZ_eq] at hs
    exact ⟨_, _, hs⟩
  · rw [unlisted _ _ hc] at hs
    exact ⟨_, _, _, _, _, _, hs⟩

end Sys2Proof.Machine
end

