-- ==== Sys2Proof/Laws/Frames.lean ====
section
/-! SUPPORT. What each shape of instruction leaves as it was, whatever its operands: a memory changed by the noted changes only
(so that the canonical form stays), a PC as an assignment stores it, and all state but the general registers, CCR, memory,
the noted changes, the environment's acts to come and the count of free values. -/

namespace Sys2Proof.Machine

/-- An assignment to PC stores what it would store again (R28, R29). -/
theorem pcValue_idem (mode : Mode) (v : BitVec 24) : pcValue mode (pcValue mode v) = pcValue mode v := by
  have low (x : BitVec 24) : (x.setWidth 16).setWidth 24 = x &&& 0xFFFF#24 := by
    apply BitVec.eq_of_toNat_eq
    have := x.isLt
    rw [BitVec.toNat_and, show (0xFFFF#24).toNat = 2 ^ 16 - 1 from rfl, Nat.and_two_pow_sub_one_eq_mod]
    simp
    omega
  cases mode <;> simp only [pcValue, low, BitVec.and_assoc] <;> congr 1

/-- Everything but the general registers, PC, CCR, memory with its noted changes, the environment's acts to come and the count of
free values is the same; the changes of memory are noted. -/
structure Spared (s t : State) : Prop where
  busOnly : BusOnly { s with draws := t.draws } t
  logged : Logged s t

/-- What every instruction keeps that is not LDC, ANDC, ORC, XORC, RTE, TRAPA, SLEEP, EEPMOV.W or of the MAC group; the changes of
memory during it are noted. -/
structure Keeps (s t : State) : Prop where
  cfg : t.cfg = s.cfg
  env : SameEnv s t
  exr : t.exr = s.exr
  mac : t.mach = s.mach ∧ t.macl = s.macl ∧ t.nMult = s.nMult ∧ t.zMult = s.zMult ∧ t.vMult = s.vMult
  procState : t.procState = s.procState
  inhibit : t.inhibit = s.inhibit
  noTrace : t.noTrace = s.noTrace
  stale : t.stale = s.stale
  logged : Logged s t
  pc : t.pc = pcValue t.cfg.mode t.pc

/-- The last thing an instruction does is an assignment to PC. -/
theorem keeps_setPc {s u : State} (v : BitVec 24) (h : Spared s u) : Keeps s (setPc u v) where
  cfg := h.busOnly.untouched.cfg
  env := h.busOnly.env
  exr := h.busOnly.untouched.exr
  mac := ⟨h.busOnly.untouched.mach, h.busOnly.untouched.macl, h.busOnly.untouched.nMult, h.busOnly.untouched.zMult,
    h.busOnly.untouched.vMult⟩
  procState := h.busOnly.untouched.procState
  inhibit := h.busOnly.untouched.inhibit
  noTrace := h.busOnly.untouched.noTrace
  stale := h.busOnly.untouched.stale
  logged := h.logged.congr ⟨rfl, rfl, rfl, rfl⟩
  pc := (pcValue_idem u.cfg.mode v).symm

theorem Spared.trans {s t u : State} (h : Spared s t) (h' : Spared t u) : Spared s u := by
  obtain ⟨h, l⟩ := h
  obtain ⟨h', l'⟩ := h'
  have hd : BusOnly { s with draws := u.draws } { t with draws := u.draws } := by
    obtain ⟨⟨⟩, e⟩ := h
    exact ⟨by constructor <;> first | assumption | rfl, e⟩
  exact ⟨hd.trans h', l.trans l'⟩

/-- What changes a general register, PC, CCR or the count of free values spares the rest. -/
theorem Spared.of_registers {s : State} (er : Vector Long 8) (pc : BitVec 24) (ccr : Ccr) (draws : Nat) :
    Spared s { s with er := er, pc := pc, ccr := ccr, draws := draws } :=
  ⟨⟨by constructor <;> rfl, rfl⟩, SameBus.logged ⟨rfl, rfl, rfl, rfl⟩⟩

theorem Spared.refl (s : State) : Spared s s := .of_registers s.er s.pc s.ccr s.draws

theorem Spared.setER {s t : State} (h : Spared s t) (n : RegNum) (v : Long) : Spared s (setER t n v) :=
  h.trans (.of_registers _ t.pc t.ccr t.draws)

theorem Spared.setCcr {s t : State} (h : Spared s t) (c : Ccr) : Spared s (setCcr t c) :=
  h.trans (.of_registers t.er t.pc c t.draws)

theorem Spared.drawn {s t : State} (h : Spared s t) : Spared s (drawn t) := h.trans (.of_registers t.er t.pc t.ccr _)

theorem Spared.put {w : Nat} {s t : State} (h : Spared s t) (rd : Reg w) (v : BitVec w) : Spared s (rd.put v t) := by
  cases rd <;> rename_i r <;> (try cases r) <;> exact h.setER _ _

theorem Spared.update {s t : State} (h : Spared s t) (ea : Ea) (sz : Long) : Spared s (ea.update sz t) := by
  cases ea <;> first | exact h | exact h.setER _ _

theorem Spared.beforeCycles {s t : State} (h : Spared s t) (n : Nat) : Spared s (beforeCycles n t) :=
  h.trans ⟨busOnly_beforeCycles n t, beforeCycles_logged n t⟩

theorem Spared.beforeCycle {s t : State} (h : Spared s t) : Spared s (beforeCycle t) := h.beforeCycles 1

theorem Spared.write {s t : State} (h : Spared s t) (c : WriteCycle) : Spared s (write c t) :=
  h.trans ⟨⟨by constructor <;> rfl, rfl⟩, write_logged c t⟩

theorem Spared.store {w : Nat} {s t : State} (h : Spared s t) (rs : Reg w) (a : Long) (v : BitVec w) :
    Spared s (rs.store a v t) := by
  cases rs <;> first | exact h.write _ | exact (h.write _).write _

/-- A register and CCR are written. -/
theorem keeps_result {w : Nat} (len : BitVec 24) (rd : Reg w) (v : BitVec w) (c : Ccr) (s : State) :
    Keeps s (advance len (setCcr (rd.put v s) c)) := keeps_setPc _ (((Spared.refl s).put rd v).setCcr c)

/-- A register is written. -/
theorem keeps_put {w : Nat} (len : BitVec 24) (rd : Reg w) (v : BitVec w) (s : State) : Keeps s (advance len (rd.put v s)) :=
  keeps_setPc _ ((Spared.refl s).put rd v)

theorem keeps_advance (len : BitVec 24) (s : State) : Keeps s (advance len s) := keeps_setPc _ (Spared.refl s)

theorem keeps_goTo (v : BitVec 24) (s : State) : Keeps s (setPc s v) := keeps_setPc v (Spared.refl s)

/-- Control goes where an address read from memory leads (R75). -/
theorem keeps_goToRead (v : BitVec 24) (n : Nat) (s : State) : Keeps s (setPc (beforeCycles n s) v) :=
  keeps_setPc v ((Spared.refl s).beforeCycles n)

theorem keeps_moveInto {w : Nat} (len : BitVec 24) (rd : Reg w) (v : BitVec w) (s : State) : Keeps s (moveInto len rd v s) :=
  keeps_result len rd v _ s

theorem keeps_moveLoad {w : Nat} (len : BitVec 24) (ea : Ea) (rd : Reg w) (s : State) : Keeps s (moveLoad len ea rd s) :=
  keeps_setPc _ (((((Spared.refl s).update ea _).beforeCycles rd.cycles).put rd _).setCcr _)

theorem keeps_moveStore {w : Nat} (len : BitVec 24) (rs : Reg w) (ea : Ea) (s : State) : Keeps s (moveStore len rs ea s) :=
  keeps_setPc _ ((((Spared.refl s).update ea _).store rs _ _).setCcr _)

theorem keeps_alterReg {w : Nat} (len : BitVec 24) (rd : Reg w) (f : BitVec w → Ccr → BitVec w × Ccr) (s : State) :
    Keeps s (alterReg len rd f s) := keeps_result len rd _ _ s

theorem keeps_testReg {w : Nat} (len : BitVec 24) (rd : Reg w) (f : BitVec w → Ccr → Ccr) (s : State) :
    Keeps s (testReg len rd f s) := keeps_setPc _ ((Spared.refl s).setCcr _)

theorem keeps_putProduct {w : Nat} (len : BitVec 24) (rd : Reg w) (p : BitVec w) (s : State) :
    Keeps s (putProduct len rd p s) := keeps_result len rd p _ s

theorem keeps_putQuotient {w : Nat} (len : BitVec 24) (rd : Reg w) (result : Option (BitVec w)) (c : Ccr) (s : State) :
    Keeps s (putQuotient len rd result c s) := by
  cases result with
  | some v => exact keeps_result len rd v c s
  | none => exact keeps_setPc _ (((Spared.refl s).drawn.put rd _).setCcr c)

theorem keeps_decimalAdjust (len : BitVec 24) (row : Bool → Bool → Nat → Nat → Option (Byte × Bool)) (rd : Reg8) (s : State) :
    Keeps s (decimalAdjust len row rd s) := keeps_setPc _ (((Spared.refl s).drawn.drawn.put (.b rd) _).setCcr _)

theorem keeps_testBit (len : BitVec 24) (p : BitPlace) (n : BitNum) (f : Bool → Ccr → Ccr) (s : State) :
    Keeps s (testBit len p n f s) := keeps_setPc _ (((Spared.refl s).beforeCycles _).setCcr _)

theorem keeps_alterBit (len : BitVec 24) (p : BitPlace) (n : BitNum) (f : Bool → Bool → Bool) (s : State) :
    Keeps s (alterBit len p n f s) := by
  cases p with
  | reg r => exact keeps_setPc _ (((Spared.refl s).beforeCycles 0).put (.b r) _)
  | mem ea => exact keeps_setPc _ (((Spared.refl s).beforeCycles 1).write _)

theorem keeps_branchIf (cc : BitVec 4) (len disp : BitVec 24) (s : State) : Keeps s (branchIf cc len disp s) := by
  unfold branchIf
  split
  · exact keeps_goTo _ s
  · exact keeps_advance len s

theorem Spared.pushPC {s t : State} (h : Spared s t) (v : BitVec 24) : Spared s (pushPC v t) := by
  unfold Sys2Proof.Machine.pushPC
  split
  · exact (h.setER _ _).write _
  · exact ((h.drawn.setER _ _).write _).write _

theorem keeps_callTo (len target : BitVec 24) (s : State) : Keeps s (callTo len target s) :=
  keeps_setPc _ ((Spared.refl s).pushPC _)

/-- A call where an address read from memory leads (R75). -/
theorem keeps_callToRead (len target : BitVec 24) (n : Nat) (s : State) : Keeps s (callTo len target (beforeCycles n s)) :=
  keeps_setPc _ (((Spared.refl s).beforeCycles n).pushPC _)

theorem keeps_return (s : State) : Keeps s (setPc (dropPC s) (stackedPC s)) := by
  unfold dropPC
  split <;> exact keeps_setPc _ (((Spared.refl s).beforeCycles _).setER _ _)

theorem keeps_storeControl (len : BitVec 24) (v : Byte) (ea : Ea) (s : State) : Keeps s (storeControl len v ea s) :=
  keeps_setPc _ (((Spared.refl s).update ea 2).drawn.write _)

theorem Spared.loadRegs {s t : State} (h : Spared s t) (count : Nat) (highest : RegNum) (a : Long) :
    Spared s (loadRegs count highest a t) := by
  obtain ⟨hb, -, -, hu⟩ := loadRegs_rest count highest a t
  have hd : (Sys2Proof.Machine.loadRegs count highest a t).draws = t.draws := hu.untouched.draws
  exact h.trans ⟨by rw [hd]; exact hu, (beforeCycles_logged _ t).congr hb⟩

theorem keeps_loadList (count : Nat) (highest : RegNum) (s : State) : Keeps s (loadList count highest s) := by
  have h := (Spared.refl s).loadRegs count highest (getER s sp)
  unfold loadList
  split
  · exact keeps_setPc _ (h.drawn.setER _ _)
  · exact keeps_setPc _ (h.setER _ _)

theorem Spared.storeRegs {s t : State} (h : Spared s t) (count : Nat) (lowest : RegNum) :
    Spared s (storeRegs count lowest t) := by
  induction count generalizing lowest t with
  | zero => exact h
  | succ n ih => exact ih (((h.setER _ _).write _).write _) (lowest + 1)

theorem keeps_storeList (count : Nat) (lowest : RegNum) (s : State) : Keeps s (storeList count lowest s) :=
  keeps_setPc _ ((Spared.refl s).storeRegs count lowest)

theorem keeps_testAndSet (erd : RegNum) (s : State) : Keeps s (testAndSet erd s) :=
  keeps_setPc _ (((Spared.refl s).beforeCycle.write _).setCcr _)

theorem keeps_storeMac (erd : RegNum) (v : Long) (s : State) : Keeps s (storeMac erd v s) :=
  keeps_setPc _ (((Spared.refl s).setER erd v).setCcr _)

theorem Spared.copyByte {s t : State} (h : Spared s t) : Spared s (copyByte t) :=
  ((h.beforeCycle.write _).setER _ _).setER _ _

theorem Spared.copyBytesB {s t : State} (h : Spared s t) (n : Nat) : Spared s (copyBytesB n t) := by
  induction n generalizing t with
  | zero => exact h
  | succ n ih => exact ih (h.copyByte.setER _ _)

theorem keeps_copyBytesB (len : BitVec 24) (n : Nat) (s : State) : Keeps s (advance len (copyBytesB n s)) :=
  keeps_setPc _ ((Spared.refl s).copyBytesB n)

theorem passOffer_sameBus (s : State) : SameBus s (passOffer s) := by
  unfold passOffer
  split <;> exact ⟨rfl, rfl, rfl, rfl⟩

theorem passOfferInside_sameBus (s : State) : SameBus s (passOfferInside s) := by
  unfold passOfferInside
  split
  · exact SameBus.refl s
  · exact passOffer_sameBus s

theorem copyBytesW_logged (n : Nat) (s : State) : Logged s (copyBytesW n s) := by
  induction n generalizing s with
  | zero => exact Logged.refl s
  | succ n ih =>
    simp only [copyBytesW]
    split
    · exact ((Spared.refl s).copyByte.setER _ _).logged
    · exact (((Spared.refl s).copyByte.setER _ _).logged.congr (passOfferInside_sameBus _)).trans (ih _)

theorem multiplyAccumulate_logged (ern erm : RegNum) (s : State) : Logged s (multiplyAccumulate ern erm s) := by
  have h := ((((Spared.refl s).beforeCycle.setER ern (getER s ern + 2)).beforeCycle).setER erm 0).logged
  simp only [multiplyAccumulate]
  split <;> exact h.congr ⟨rfl, rfl, rfl, rfl⟩

/-- The changes of memory while an exception frame is stored are noted. -/
theorem Spared.pushFrame {s t : State} (h : Spared s t) (ret : BitVec 24) : Spared s (pushFrame ret t) := by
  have h' : Spared s (pushWord (frameHigh t ret) (pushWord (ret.setWidth 16) t)) :=
    (((h.setER _ _).write _).setER _ _).write _
  unfold Sys2Proof.Machine.pushFrame
  split
  · exact (h'.drawn.setER _ _).write _
  · exact h'

theorem takeException_logged (ret : BitVec 24) (v : Nat) (x : Exr) (s : State) : Logged s (takeException ret v x s) :=
  (((((Spared.refl s).pushFrame ret).logged.congr
    (u := setExr (setCcr (pushFrame ret s) (maskedCcr (pushFrame ret s).cfg (pushFrame ret s).ccr)) x)
    ⟨rfl, rfl, rfl, rfl⟩).trans (beforeCycles_logged (addressCycles s.cfg) _))).congr ⟨rfl, rfl, rfl, rfl⟩

theorem returnFromException_logged (s : State) : Logged s (returnFromException s) := by
  have h (t : State) := (((Spared.refl t).beforeCycles 2).setER sp 0).logged
  simp only [returnFromException, popFrame]
  cases exrValid s.cfg <;> simp only [Bool.false_eq_true, if_false, if_true] <;> cases s.cfg.mode
  · exact (h s).congr ⟨rfl, rfl, rfl, rfl⟩
  · exact (h s).congr ⟨rfl, rfl, rfl, rfl⟩
  · exact (((Spared.refl s).beforeCycle.setER sp (getER s sp + 2)).logged.trans (h _)).congr ⟨rfl, rfl, rfl, rfl⟩
  · exact (((Spared.refl s).beforeCycle.setER sp (getER s sp + 2)).logged.trans (h _)).congr ⟨rfl, rfl, rfl, rfl⟩

theorem resetSequence_logged (kind : ResetKind) (s : State) : Logged s (resetSequence kind s) :=
  (SameBus.logged ⟨rfl, rfl, rfl, rfl⟩ : Logged s { s with
    er := (resetSequence kind s).er, ccr := (resetSequence kind s).ccr }).trans
    ((beforeCycles_logged (addressCycles s.cfg) _).congr ⟨rfl, rfl, rfl, rfl⟩)

end Sys2Proof.Machine
end

