-- ==== Sys2Proof/Laws/PerInstr.lean ====
section
/-! SUPPORT. Statements for all instructions, one lemma per constructor. -/

namespace Sys2Proof.Laws.EncodedSize

/-- An instruction is one to five 16-bit words long (R100). -/
def Statement (i : Instr) : Prop := i.size % 2 = 0 ∧ 2 ≤ i.size ∧ i.size ≤ 10

theorem of_size {i : Instr} {n : Nat} (h : i.size = n) (hn : n % 2 = 0 ∧ 2 ≤ n ∧ n ≤ 10) : Statement i := by
  unfold Statement; rw [h]; exact hn

theorem movBRsRd (rs : Reg8) (rd : Reg8) : Statement (.movBRsRd rs rd) := of_size (n := 2) rfl (by decide)
theorem movWRsRd (rs : Reg16) (rd : Reg16) : Statement (.movWRsRd rs rd) := of_size (n := 2) rfl (by decide)
theorem movLERsERd (ers : RegNum) (erd : RegNum) : Statement (.movLERsERd ers erd) := of_size (n := 2) rfl (by decide)
theorem movBImm8Rd (imm : BitVec 8) (rd : Reg8) : Statement (.movBImm8Rd imm rd) := of_size (n := 2) rfl (by decide)
theorem movWImm16Rd (imm : BitVec 16) (rd : Reg16) : Statement (.movWImm16Rd imm rd) := of_size (n := 4) rfl (by decide)
theorem movLImm32ERd (imm : BitVec 32) (erd : RegNum) : Statement (.movLImm32ERd imm erd) :=
  of_size (n := 6) rfl (by decide)
theorem movBAtERsRd (ers : RegNum) (rd : Reg8) : Statement (.movBAtERsRd ers rd) := of_size (n := 2) rfl (by decide)
theorem movBD16ERsRd (ers : RegNum) (disp : BitVec 16) (rd : Reg8) : Statement (.movBD16ERsRd ers disp rd) :=
  of_size (n := 4) rfl (by decide)
theorem movBD32ERsRd (ers : RegNum) (disp : BitVec 32) (rd : Reg8) : Statement (.movBD32ERsRd ers disp rd) :=
  of_size (n := 8) rfl (by decide)
theorem movBERsIncRd (ers : RegNum) (rd : Reg8) : Statement (.movBERsIncRd ers rd) := of_size (n := 2) rfl (by decide)
theorem movBAa8Rd (abs : BitVec 8) (rd : Reg8) : Statement (.movBAa8Rd abs rd) := of_size (n := 2) rfl (by decide)
theorem movBAa16Rd (abs : BitVec 16) (rd : Reg8) : Statement (.movBAa16Rd abs rd) := of_size (n := 4) rfl (by decide)
theorem movBAa32Rd (abs : BitVec 32) (rd : Reg8) : Statement (.movBAa32Rd abs rd) := of_size (n := 6) rfl (by decide)
theorem movWAtERsRd (ers : RegNum) (rd : Reg16) : Statement (.movWAtERsRd ers rd) := of_size (n := 2) rfl (by decide)
theorem movWD16ERsRd (ers : RegNum) (disp : BitVec 16) (rd : Reg16) : Statement (.movWD16ERsRd ers disp rd) :=
  of_size (n := 4) rfl (by decide)
theorem movWD32ERsRd (ers : RegNum) (disp : BitVec 32) (rd : Reg16) : Statement (.movWD32ERsRd ers disp rd) :=
  of_size (n := 8) rfl (by decide)
theorem movWERsIncRd (ers : RegNum) (rd : Reg16) : Statement (.movWERsIncRd ers rd) := of_size (n := 2) rfl (by decide)
theorem movWAa16Rd (abs : BitVec 16) (rd : Reg16) : Statement (.movWAa16Rd abs rd) := of_size (n := 4) rfl (by decide)
theorem movWAa32Rd (abs : BitVec 32) (rd : Reg16) : Statement (.movWAa32Rd abs rd) := of_size (n := 6) rfl (by decide)
theorem movLAtERsERd (ers : RegNum) (erd : RegNum) : Statement (.movLAtERsERd ers erd) :=
  of_size (n := 4) rfl (by decide)
theorem movLD16ERsERd (ers : RegNum) (disp : BitVec 16) (erd : RegNum) : Statement (.movLD16ERsERd ers disp erd) :=
  of_size (n := 6) rfl (by decide)
theorem movLD32ERsERd (ers : RegNum) (disp : BitVec 32) (erd : RegNum) : Statement (.movLD32ERsERd ers disp erd) :=
  of_size (n := 10) rfl (by decide)
theorem movLERsIncERd (ers : RegNum) (erd : RegNum) : Statement (.movLERsIncERd ers erd) :=
  of_size (n := 4) rfl (by decide)
theorem movLAa16ERd (abs : BitVec 16) (erd : RegNum) : Statement (.movLAa16ERd abs erd) :=
  of_size (n := 6) rfl (by decide)
theorem movLAa32ERd (abs : BitVec 32) (erd : RegNum) : Statement (.movLAa32ERd abs erd) :=
  of_size (n := 8) rfl (by decide)
theorem movBRsAtERd (rs : Reg8) (erd : RegNum) : Statement (.movBRsAtERd rs erd) := of_size (n := 2) rfl (by decide)
theorem movBRsD16ERd (rs : Reg8) (erd : RegNum) (disp : BitVec 16) : Statement (.movBRsD16ERd rs erd disp) :=
  of_size (n := 4) rfl (by decide)
theorem movBRsD32ERd (rs : Reg8) (erd : RegNum) (disp : BitVec 32) : Statement (.movBRsD32ERd rs erd disp) :=
  of_size (n := 8) rfl (by decide)
theorem movBRsDecERd (rs : Reg8) (erd : RegNum) : Statement (.movBRsDecERd rs erd) := of_size (n := 2) rfl (by decide)
theorem movBRsAa8 (rs : Reg8) (abs : BitVec 8) : Statement (.movBRsAa8 rs abs) := of_size (n := 2) rfl (by decide)
theorem movBRsAa16 (rs : Reg8) (abs : BitVec 16) : Statement (.movBRsAa16 rs abs) := of_size (n := 4) rfl (by decide)
theorem movBRsAa32 (rs : Reg8) (abs : BitVec 32) : Statement (.movBRsAa32 rs abs) := of_size (n := 6) rfl (by decide)
theorem movWRsAtERd (rs : Reg16) (erd : RegNum) : Statement (.movWRsAtERd rs erd) := of_size (n := 2) rfl (by decide)
theorem movWRsD16ERd (rs : Reg16) (erd : RegNum) (disp : BitVec 16) : Statement (.movWRsD16ERd rs erd disp) :=
  of_size (n := 4) rfl (by decide)
theorem movWRsD32ERd (rs : Reg16) (erd : RegNum) (disp : BitVec 32) : Statement (.movWRsD32ERd rs erd disp) :=
  of_size (n := 8) rfl (by decide)
theorem movWRsDecERd (rs : Reg16) (erd : RegNum) : Statement (.movWRsDecERd rs erd) := of_size (n := 2) rfl (by decide)
theorem movWRsAa16 (rs : Reg16) (abs : BitVec 16) : Statement (.movWRsAa16 rs abs) := of_size (n := 4) rfl (by decide)
theorem movWRsAa32 (rs : Reg16) (abs : BitVec 32) : Statement (.movWRsAa32 rs abs) := of_size (n := 6) rfl (by decide)
theorem movLERsAtERd (ers : RegNum) (erd : RegNum) : Statement (.movLERsAtERd ers erd) :=
  of_size (n := 4) rfl (by decide)
theorem movLERsD16ERd (ers : RegNum) (erd : RegNum) (disp : BitVec 16) : Statement (.movLERsD16ERd ers erd disp) :=
  of_size (n := 6) rfl (by decide)
theorem movLERsD32ERd (ers : RegNum) (erd : RegNum) (disp : BitVec 32) : Statement (.movLERsD32ERd ers erd disp) :=
  of_size (n := 10) rfl (by decide)
theorem movLERsDecERd (ers : RegNum) (erd : RegNum) : Statement (.movLERsDecERd ers erd) :=
  of_size (n := 4) rfl (by decide)
theorem movLERsAa16 (ers : RegNum) (abs : BitVec 16) : Statement (.movLERsAa16 ers abs) :=
  of_size (n := 6) rfl (by decide)
theorem movLERsAa32 (ers : RegNum) (abs : BitVec 32) : Statement (.movLERsAa32 ers abs) :=
  of_size (n := 8) rfl (by decide)
theorem popWRn (rn : Reg16) : Statement (.popWRn rn) := of_size (n := 2) rfl (by decide)
theorem popLERn (ern : RegNum) : Statement (.popLERn ern) := of_size (n := 4) rfl (by decide)
theorem pushWRn (rn : Reg16) : Statement (.pushWRn rn) := of_size (n := 2) rfl (by decide)
theorem pushLERn (ern : RegNum) : Statement (.pushLERn ern) := of_size (n := 4) rfl (by decide)
theorem ldmL2 (rn : RegNum) : Statement (.ldmL2 rn) := of_size (n := 4) rfl (by decide)
theorem ldmL3 (rn : RegNum) : Statement (.ldmL3 rn) := of_size (n := 4) rfl (by decide)
theorem ldmL4 (rn : RegNum) : Statement (.ldmL4 rn) := of_size (n := 4) rfl (by decide)
theorem stmL2 (rn : RegNum) : Statement (.stmL2 rn) := of_size (n := 4) rfl (by decide)
theorem stmL3 (rn : RegNum) : Statement (.stmL3 rn) := of_size (n := 4) rfl (by decide)
theorem stmL4 (rn : RegNum) : Statement (.stmL4 rn) := of_size (n := 4) rfl (by decide)
theorem movfpeAa16Rd (abs : BitVec 16) (rd : Reg8) : Statement (.movfpeAa16Rd abs rd) :=
  of_size (n := 4) rfl (by decide)
theorem movtpeRsAa16 (rs : Reg8) (abs : BitVec 16) : Statement (.movtpeRsAa16 rs abs) :=
  of_size (n := 4) rfl (by decide)
theorem addBImm8Rd (imm : BitVec 8) (rd : Reg8) : Statement (.addBImm8Rd imm rd) := of_size (n := 2) rfl (by decide)
theorem addBRsRd (rs : Reg8) (rd : Reg8) : Statement (.addBRsRd rs rd) := of_size (n := 2) rfl (by decide)
theorem addWImm16Rd (imm : BitVec 16) (rd : Reg16) : Statement (.addWImm16Rd imm rd) := of_size (n := 4) rfl (by decide)
theorem addWRsRd (rs : Reg16) (rd : Reg16) : Statement (.addWRsRd rs rd) := of_size (n := 2) rfl (by decide)
theorem addLImm32ERd (imm : BitVec 32) (erd : RegNum) : Statement (.addLImm32ERd imm erd) :=
  of_size (n := 6) rfl (by decide)
theorem addLERsERd (ers : RegNum) (erd : RegNum) : Statement (.addLERsERd ers erd) := of_size (n := 2) rfl (by decide)
theorem addsBy1ERd (erd : RegNum) : Statement (.addsBy1ERd erd) := of_size (n := 2) rfl (by decide)
theorem addsBy2ERd (erd : RegNum) : Statement (.addsBy2ERd erd) := of_size (n := 2) rfl (by decide)
theorem addsBy4ERd (erd : RegNum) : Statement (.addsBy4ERd erd) := of_size (n := 2) rfl (by decide)
theorem addxImm8Rd (imm : BitVec 8) (rd : Reg8) : Statement (.addxImm8Rd imm rd) := of_size (n := 2) rfl (by decide)
theorem addxRsRd (rs : Reg8) (rd : Reg8) : Statement (.addxRsRd rs rd) := of_size (n := 2) rfl (by decide)
theorem subBRsRd (rs : Reg8) (rd : Reg8) : Statement (.subBRsRd rs rd) := of_size (n := 2) rfl (by decide)
theorem subWImm16Rd (imm : BitVec 16) (rd : Reg16) : Statement (.subWImm16Rd imm rd) := of_size (n := 4) rfl (by decide)
theorem subWRsRd (rs : Reg16) (rd : Reg16) : Statement (.subWRsRd rs rd) := of_size (n := 2) rfl (by decide)
theorem subLImm32ERd (imm : BitVec 32) (erd : RegNum) : Statement (.subLImm32ERd imm erd) :=
  of_size (n := 6) rfl (by decide)
theorem subLERsERd (ers : RegNum) (erd : RegNum) : Statement (.subLERsERd ers erd) := of_size (n := 2) rfl (by decide)
theorem subsBy1ERd (erd : RegNum) : Statement (.subsBy1ERd erd) := of_size (n := 2) rfl (by decide)
theorem subsBy2ERd (erd : RegNum) : Statement (.subsBy2ERd erd) := of_size (n := 2) rfl (by decide)
theorem subsBy4ERd (erd : RegNum) : Statement (.subsBy4ERd erd) := of_size (n := 2) rfl (by decide)
theorem subxImm8Rd (imm : BitVec 8) (rd : Reg8) : Statement (.subxImm8Rd imm rd) := of_size (n := 2) rfl (by decide)
theorem subxRsRd (rs : Reg8) (rd : Reg8) : Statement (.subxRsRd rs rd) := of_size (n := 2) rfl (by decide)
theorem cmpBImm8Rd (imm : BitVec 8) (rd : Reg8) : Statement (.cmpBImm8Rd imm rd) := of_size (n := 2) rfl (by decide)
theorem cmpBRsRd (rs : Reg8) (rd : Reg8) : Statement (.cmpBRsRd rs rd) := of_size (n := 2) rfl (by decide)
theorem cmpWImm16Rd (imm : BitVec 16) (rd : Reg16) : Statement (.cmpWImm16Rd imm rd) := of_size (n := 4) rfl (by decide)
theorem cmpWRsRd (rs : Reg16) (rd : Reg16) : Statement (.cmpWRsRd rs rd) := of_size (n := 2) rfl (by decide)
theorem cmpLImm32ERd (imm : BitVec 32) (erd : RegNum) : Statement (.cmpLImm32ERd imm erd) :=
  of_size (n := 6) rfl (by decide)
theorem cmpLERsERd (ers : RegNum) (erd : RegNum) : Statement (.cmpLERsERd ers erd) := of_size (n := 2) rfl (by decide)
theorem incBRd (rd : Reg8) : Statement (.incBRd rd) := of_size (n := 2) rfl (by decide)
theorem incWBy1Rd (rd : Reg16) : Statement (.incWBy1Rd rd) := of_size (n := 2) rfl (by decide)
theorem incWBy2Rd (rd : Reg16) : Statement (.incWBy2Rd rd) := of_size (n := 2) rfl (by decide)
theorem incLBy1ERd (erd : RegNum) : Statement (.incLBy1ERd erd) := of_size (n := 2) rfl (by decide)
theorem incLBy2ERd (erd : RegNum) : Statement (.incLBy2ERd erd) := of_size (n := 2) rfl (by decide)
theorem decBRd (rd : Reg8) : Statement (.decBRd rd) := of_size (n := 2) rfl (by decide)
theorem decWBy1Rd (rd : Reg16) : Statement (.decWBy1Rd rd) := of_size (n := 2) rfl (by decide)
theorem decWBy2Rd (rd : Reg16) : Statement (.decWBy2Rd rd) := of_size (n := 2) rfl (by decide)
theorem decLBy1ERd (erd : RegNum) : Statement (.decLBy1ERd erd) := of_size (n := 2) rfl (by decide)
theorem decLBy2ERd (erd : RegNum) : Statement (.decLBy2ERd erd) := of_size (n := 2) rfl (by decide)
theorem negBRd (rd : Reg8) : Statement (.negBRd rd) := of_size (n := 2) rfl (by decide)
theorem negWRd (rd : Reg16) : Statement (.negWRd rd) := of_size (n := 2) rfl (by decide)
theorem negLERd (erd : RegNum) : Statement (.negLERd erd) := of_size (n := 2) rfl (by decide)
theorem daaRd (rd : Reg8) : Statement (.daaRd rd) := of_size (n := 2) rfl (by decide)
theorem dasRd (rd : Reg8) : Statement (.dasRd rd) := of_size (n := 2) rfl (by decide)
theorem mulxuBRsRd (rs : Reg8) (rd : Reg16) : Statement (.mulxuBRsRd rs rd) := of_size (n := 2) rfl (by decide)
theorem mulxuWRsERd (rs : Reg16) (erd : RegNum) : Statement (.mulxuWRsERd rs erd) := of_size (n := 2) rfl (by decide)
theorem mulxsBRsRd (rs : Reg8) (rd : Reg16) : Statement (.mulxsBRsRd rs rd) := of_size (n := 4) rfl (by decide)
theorem mulxsWRsERd (rs : Reg16) (erd : RegNum) : Statement (.mulxsWRsERd rs erd) := of_size (n := 4) rfl (by decide)
theorem divxuBRsRd (rs : Reg8) (rd : Reg16) : Statement (.divxuBRsRd rs rd) := of_size (n := 2) rfl (by decide)
theorem divxuWRsERd (rs : Reg16) (erd : RegNum) : Statement (.divxuWRsERd rs erd) := of_size (n := 2) rfl (by decide)
theorem divxsBRsRd (rs : Reg8) (rd : Reg16) : Statement (.divxsBRsRd rs rd) := of_size (n := 4) rfl (by decide)
theorem divxsWRsERd (rs : Reg16) (erd : RegNum) : Statement (.divxsWRsERd rs erd) := of_size (n := 4) rfl (by decide)
theorem extuWRd (rd : Reg16) : Statement (.extuWRd rd) := of_size (n := 2) rfl (by decide)
theorem extuLERd (erd : RegNum) : Statement (.extuLERd erd) := of_size (n := 2) rfl (by decide)
theorem extsWRd (rd : Reg16) : Statement (.extsWRd rd) := of_size (n := 2) rfl (by decide)
theorem extsLERd (erd : RegNum) : Statement (.extsLERd erd) := of_size (n := 2) rfl (by decide)
theorem tasAtERd (erd : RegNum) : Statement (.tasAtERd erd) := of_size (n := 4) rfl (by decide)
theorem macERnIncERmInc (ern : RegNum) (erm : RegNum) : Statement (.macERnIncERmInc ern erm) :=
  of_size (n := 4) rfl (by decide)
theorem clrmac : Statement .clrmac := of_size (n := 2) rfl (by decide)
theorem ldmacERsMACH (ers : RegNum) : Statement (.ldmacERsMACH ers) := of_size (n := 2) rfl (by decide)
theorem ldmacERsMACL (ers : RegNum) : Statement (.ldmacERsMACL ers) := of_size (n := 2) rfl (by decide)
theorem stmacMACHERd (erd : RegNum) : Statement (.stmacMACHERd erd) := of_size (n := 2) rfl (by decide)
theorem stmacMACLERd (erd : RegNum) : Statement (.stmacMACLERd erd) := of_size (n := 2) rfl (by decide)
theorem andBImm8Rd (imm : BitVec 8) (rd : Reg8) : Statement (.andBImm8Rd imm rd) := of_size (n := 2) rfl (by decide)
theorem andBRsRd (rs : Reg8) (rd : Reg8) : Statement (.andBRsRd rs rd) := of_size (n := 2) rfl (by decide)
theorem andWImm16Rd (imm : BitVec 16) (rd : Reg16) : Statement (.andWImm16Rd imm rd) := of_size (n := 4) rfl (by decide)
theorem andWRsRd (rs : Reg16) (rd : Reg16) : Statement (.andWRsRd rs rd) := of_size (n := 2) rfl (by decide)
theorem andLImm32ERd (imm : BitVec 32) (erd : RegNum) : Statement (.andLImm32ERd imm erd) :=
  of_size (n := 6) rfl (by decide)
theorem andLERsERd (ers : RegNum) (erd : RegNum) : Statement (.andLERsERd ers erd) := of_size (n := 4) rfl (by decide)
theorem orBImm8Rd (imm : BitVec 8) (rd : Reg8) : Statement (.orBImm8Rd imm rd) := of_size (n := 2) rfl (by decide)
theorem orBRsRd (rs : Reg8) (rd : Reg8) : Statement (.orBRsRd rs rd) := of_size (n := 2) rfl (by decide)
theorem orWImm16Rd (imm : BitVec 16) (rd : Reg16) : Statement (.orWImm16Rd imm rd) := of_size (n := 4) rfl (by decide)
theorem orWRsRd (rs : Reg16) (rd : Reg16) : Statement (.orWRsRd rs rd) := of_size (n := 2) rfl (by decide)
theorem orLImm32ERd (imm : BitVec 32) (erd : RegNum) : Statement (.orLImm32ERd imm erd) :=
  of_size (n := 6) rfl (by decide)
theorem orLERsERd (ers : RegNum) (erd : RegNum) : Statement (.orLERsERd ers erd) := of_size (n := 4) rfl (by decide)
theorem xorBImm8Rd (imm : BitVec 8) (rd : Reg8) : Statement (.xorBImm8Rd imm rd) := of_size (n := 2) rfl (by decide)
theorem xorBRsRd (rs : Reg8) (rd : Reg8) : Statement (.xorBRsRd rs rd) := of_size (n := 2) rfl (by decide)
theorem xorWImm16Rd (imm : BitVec 16) (rd : Reg16) : Statement (.xorWImm16Rd imm rd) := of_size (n := 4) rfl (by decide)
theorem xorWRsRd (rs : Reg16) (rd : Reg16) : Statement (.xorWRsRd rs rd) := of_size (n := 2) rfl (by decide)
theorem xorLImm32ERd (imm : BitVec 32) (erd : RegNum) : Statement (.xorLImm32ERd imm erd) :=
  of_size (n := 6) rfl (by decide)
theorem xorLERsERd (ers : RegNum) (erd : RegNum) : Statement (.xorLERsERd ers erd) := of_size (n := 4) rfl (by decide)
theorem notBRd (rd : Reg8) : Statement (.notBRd rd) := of_size (n := 2) rfl (by decide)
theorem notWRd (rd : Reg16) : Statement (.notWRd rd) := of_size (n := 2) rfl (by decide)
theorem notLERd (erd : RegNum) : Statement (.notLERd erd) := of_size (n := 2) rfl (by decide)
theorem shalBRd (rd : Reg8) : Statement (.shalBRd rd) := of_size (n := 2) rfl (by decide)
theorem shalBBy2Rd (rd : Reg8) : Statement (.shalBBy2Rd rd) := of_size (n := 2) rfl (by decide)
theorem shalWRd (rd : Reg16) : Statement (.shalWRd rd) := of_size (n := 2) rfl (by decide)
theorem shalWBy2Rd (rd : Reg16) : Statement (.shalWBy2Rd rd) := of_size (n := 2) rfl (by decide)
theorem shalLERd (erd : RegNum) : Statement (.shalLERd erd) := of_size (n := 2) rfl (by decide)
theorem shalLBy2ERd (erd : RegNum) : Statement (.shalLBy2ERd erd) := of_size (n := 2) rfl (by decide)
theorem sharBRd (rd : Reg8) : Statement (.sharBRd rd) := of_size (n := 2) rfl (by decide)
theorem sharBBy2Rd (rd : Reg8) : Statement (.sharBBy2Rd rd) := of_size (n := 2) rfl (by decide)
theorem sharWRd (rd : Reg16) : Statement (.sharWRd rd) := of_size (n := 2) rfl (by decide)
theorem sharWBy2Rd (rd : Reg16) : Statement (.sharWBy2Rd rd) := of_size (n := 2) rfl (by decide)
theorem sharLERd (erd : RegNum) : Statement (.sharLERd erd) := of_size (n := 2) rfl (by decide)
theorem sharLBy2ERd (erd : RegNum) : Statement (.sharLBy2ERd erd) := of_size (n := 2) rfl (by decide)
theorem shllBRd (rd : Reg8) : Statement (.shllBRd rd) := of_size (n := 2) rfl (by decide)
theorem shllBBy2Rd (rd : Reg8) : Statement (.shllBBy2Rd rd) := of_size (n := 2) rfl (by decide)
theorem shllWRd (rd : Reg16) : Statement (.shllWRd rd) := of_size (n := 2) rfl (by decide)
theorem shllWBy2Rd (rd : Reg16) : Statement (.shllWBy2Rd rd) := of_size (n := 2) rfl (by decide)
theorem shllLERd (erd : RegNum) : Statement (.shllLERd erd) := of_size (n := 2) rfl (by decide)
theorem shllLBy2ERd (erd : RegNum) : Statement (.shllLBy2ERd erd) := of_size (n := 2) rfl (by decide)
theorem shlrBRd (rd : Reg8) : Statement (.shlrBRd rd) := of_size (n := 2) rfl (by decide)
theorem shlrBBy2Rd (rd : Reg8) : Statement (.shlrBBy2Rd rd) := of_size (n := 2) rfl (by decide)
theorem shlrWRd (rd : Reg16) : Statement (.shlrWRd rd) := of_size (n := 2) rfl (by decide)
theorem shlrWBy2Rd (rd : Reg16) : Statement (.shlrWBy2Rd rd) := of_size (n := 2) rfl (by decide)
theorem shlrLERd (erd : RegNum) : Statement (.shlrLERd erd) := of_size (n := 2) rfl (by decide)
theorem shlrLBy2ERd (erd : RegNum) : Statement (.shlrLBy2ERd erd) := of_size (n := 2) rfl (by decide)
theorem rotlBRd (rd : Reg8) : Statement (.rotlBRd rd) := of_size (n := 2) rfl (by decide)
theorem rotlBBy2Rd (rd : Reg8) : Statement (.rotlBBy2Rd rd) := of_size (n := 2) rfl (by decide)
theorem rotlWRd (rd : Reg16) : Statement (.rotlWRd rd) := of_size (n := 2) rfl (by decide)
theorem rotlWBy2Rd (rd : Reg16) : Statement (.rotlWBy2Rd rd) := of_size (n := 2) rfl (by decide)
theorem rotlLERd (erd : RegNum) : Statement (.rotlLERd erd) := of_size (n := 2) rfl (by decide)
theorem rotlLBy2ERd (erd : RegNum) : Statement (.rotlLBy2ERd erd) := of_size (n := 2) rfl (by decide)
theorem rotrBRd (rd : Reg8) : Statement (.rotrBRd rd) := of_size (n := 2) rfl (by decide)
theorem rotrBBy2Rd (rd : Reg8) : Statement (.rotrBBy2Rd rd) := of_size (n := 2) rfl (by decide)
theorem rotrWRd (rd : Reg16) : Statement (.rotrWRd rd) := of_size (n := 2) rfl (by decide)
theorem rotrWBy2Rd (rd : Reg16) : Statement (.rotrWBy2Rd rd) := of_size (n := 2) rfl (by decide)
theorem rotrLERd (erd : RegNum) : Statement (.rotrLERd erd) := of_size (n := 2) rfl (by decide)
theorem rotrLBy2ERd (erd : RegNum) : Statement (.rotrLBy2ERd erd) := of_size (n := 2) rfl (by decide)
theorem rotxlBRd (rd : Reg8) : Statement (.rotxlBRd rd) := of_size (n := 2) rfl (by decide)
theorem rotxlBBy2Rd (rd : Reg8) : Statement (.rotxlBBy2Rd rd) := of_size (n := 2) rfl (by decide)
theorem rotxlWRd (rd : Reg16) : Statement (.rotxlWRd rd) := of_size (n := 2) rfl (by decide)
theorem rotxlWBy2Rd (rd : Reg16) : Statement (.rotxlWBy2Rd rd) := of_size (n := 2) rfl (by decide)
theorem rotxlLERd (erd : RegNum) : Statement (.rotxlLERd erd) := of_size (n := 2) rfl (by decide)
theorem rotxlLBy2ERd (erd : RegNum) : Statement (.rotxlLBy2ERd erd) := of_size (n := 2) rfl (by decide)
theorem rotxrBRd (rd : Reg8) : Statement (.rotxrBRd rd) := of_size (n := 2) rfl (by decide)
theorem rotxrBBy2Rd (rd : Reg8) : Statement (.rotxrBBy2Rd rd) := of_size (n := 2) rfl (by decide)
theorem rotxrWRd (rd : Reg16) : Statement (.rotxrWRd rd) := of_size (n := 2) rfl (by decide)
theorem rotxrWBy2Rd (rd : Reg16) : Statement (.rotxrWBy2Rd rd) := of_size (n := 2) rfl (by decide)
theorem rotxrLERd (erd : RegNum) : Statement (.rotxrLERd erd) := of_size (n := 2) rfl (by decide)
theorem rotxrLBy2ERd (erd : RegNum) : Statement (.rotxrLBy2ERd erd) := of_size (n := 2) rfl (by decide)
theorem bandImm3Rd (n : BitNum) (rd : Reg8) : Statement (.bandImm3Rd n rd) := of_size (n := 2) rfl (by decide)
theorem bandImm3AtERd (n : BitNum) (erd : RegNum) : Statement (.bandImm3AtERd n erd) := of_size (n := 4) rfl (by decide)
theorem bandImm3Aa8 (n : BitNum) (abs : BitVec 8) : Statement (.bandImm3Aa8 n abs) := of_size (n := 4) rfl (by decide)
theorem bandImm3Aa16 (n : BitNum) (abs : BitVec 16) : Statement (.bandImm3Aa16 n abs) :=
  of_size (n := 6) rfl (by decide)
theorem bandImm3Aa32 (n : BitNum) (abs : BitVec 32) : Statement (.bandImm3Aa32 n abs) :=
  of_size (n := 8) rfl (by decide)
theorem bclrImm3Rd (n : BitNum) (rd : Reg8) : Statement (.bclrImm3Rd n rd) := of_size (n := 2) rfl (by decide)
theorem bclrImm3AtERd (n : BitNum) (erd : RegNum) : Statement (.bclrImm3AtERd n erd) := of_size (n := 4) rfl (by decide)
theorem bclrImm3Aa8 (n : BitNum) (abs : BitVec 8) : Statement (.bclrImm3Aa8 n abs) := of_size (n := 4) rfl (by decide)
theorem bclrImm3Aa16 (n : BitNum) (abs : BitVec 16) : Statement (.bclrImm3Aa16 n abs) :=
  of_size (n := 6) rfl (by decide)
theorem bclrImm3Aa32 (n : BitNum) (abs : BitVec 32) : Statement (.bclrImm3Aa32 n abs) :=
  of_size (n := 8) rfl (by decide)
theorem bclrRnRd (rn : Reg8) (rd : Reg8) : Statement (.bclrRnRd rn rd) := of_size (n := 2) rfl (by decide)
theorem bclrRnAtERd (rn : Reg8) (erd : RegNum) : Statement (.bclrRnAtERd rn erd) := of_size (n := 4) rfl (by decide)
theorem bclrRnAa8 (rn : Reg8) (abs : BitVec 8) : Statement (.bclrRnAa8 rn abs) := of_size (n := 4) rfl (by decide)
theorem bclrRnAa16 (rn : Reg8) (abs : BitVec 16) : Statement (.bclrRnAa16 rn abs) := of_size (n := 6) rfl (by decide)
theorem bclrRnAa32 (rn : Reg8) (abs : BitVec 32) : Statement (.bclrRnAa32 rn abs) := of_size (n := 8) rfl (by decide)
theorem biandImm3Rd (n : BitNum) (rd : Reg8) : Statement (.biandImm3Rd n rd) := of_size (n := 2) rfl (by decide)
theorem biandImm3AtERd (n : BitNum) (erd : RegNum) : Statement (.biandImm3AtERd n erd) :=
  of_size (n := 4) rfl (by decide)
theorem biandImm3Aa8 (n : BitNum) (abs : BitVec 8) : Statement (.biandImm3Aa8 n abs) := of_size (n := 4) rfl (by decide)
theorem biandImm3Aa16 (n : BitNum) (abs : BitVec 16) : Statement (.biandImm3Aa16 n abs) :=
  of_size (n := 6) rfl (by decide)
theorem biandImm3Aa32 (n : BitNum) (abs : BitVec 32) : Statement (.biandImm3Aa32 n abs) :=
  of_size (n := 8) rfl (by decide)
theorem bildImm3Rd (n : BitNum) (rd : Reg8) : Statement (.bildImm3Rd n rd) := of_size (n := 2) rfl (by decide)
theorem bildImm3AtERd (n : BitNum) (erd : RegNum) : Statement (.bildImm3AtERd n erd) := of_size (n := 4) rfl (by decide)
theorem bildImm3Aa8 (n : BitNum) (abs : BitVec 8) : Statement (.bildImm3Aa8 n abs) := of_size (n := 4) rfl (by decide)
theorem bildImm3Aa16 (n : BitNum) (abs : BitVec 16) : Statement (.bildImm3Aa16 n abs) :=
  of_size (n := 6) rfl (by decide)
theorem bildImm3Aa32 (n : BitNum) (abs : BitVec 32) : Statement (.bildImm3Aa32 n abs) :=
  of_size (n := 8) rfl (by decide)
theorem biorImm3Rd (n : BitNum) (rd : Reg8) : Statement (.biorImm3Rd n rd) := of_size (n := 2) rfl (by decide)
theorem biorImm3AtERd (n : BitNum) (erd : RegNum) : Statement (.biorImm3AtERd n erd) := of_size (n := 4) rfl (by decide)
theorem biorImm3Aa8 (n : BitNum) (abs : BitVec 8) : Statement (.biorImm3Aa8 n abs) := of_size (n := 4) rfl (by decide)
theorem biorImm3Aa16 (n : BitNum) (abs : BitVec 16) : Statement (.biorImm3Aa16 n abs) :=
  of_size (n := 6) rfl (by decide)
theorem biorImm3Aa32 (n : BitNum) (abs : BitVec 32) : Statement (.biorImm3Aa32 n abs) :=
  of_size (n := 8) rfl (by decide)
theorem bistImm3Rd (n : BitNum) (rd : Reg8) : Statement (.bistImm3Rd n rd) := of_size (n := 2) rfl (by decide)
theorem bistImm3AtERd (n : BitNum) (erd : RegNum) : Statement (.bistImm3AtERd n erd) := of_size (n := 4) rfl (by decide)
theorem bistImm3Aa8 (n : BitNum) (abs : BitVec 8) : Statement (.bistImm3Aa8 n abs) := of_size (n := 4) rfl (by decide)
theorem bistImm3Aa16 (n : BitNum) (abs : BitVec 16) : Statement (.bistImm3Aa16 n abs) :=
  of_size (n := 6) rfl (by decide)
theorem bistImm3Aa32 (n : BitNum) (abs : BitVec 32) : Statement (.bistImm3Aa32 n abs) :=
  of_size (n := 8) rfl (by decide)
theorem bixorImm3Rd (n : BitNum) (rd : Reg8) : Statement (.bixorImm3Rd n rd) := of_size (n := 2) rfl (by decide)
theorem bixorImm3AtERd (n : BitNum) (erd : RegNum) : Statement (.bixorImm3AtERd n erd) :=
  of_size (n := 4) rfl (by decide)
theorem bixorImm3Aa8 (n : BitNum) (abs : BitVec 8) : Statement (.bixorImm3Aa8 n abs) := of_size (n := 4) rfl (by decide)
theorem bixorImm3Aa16 (n : BitNum) (abs : BitVec 16) : Statement (.bixorImm3Aa16 n abs) :=
  of_size (n := 6) rfl (by decide)
theorem bixorImm3Aa32 (n : BitNum) (abs : BitVec 32) : Statement (.bixorImm3Aa32 n abs) :=
  of_size (n := 8) rfl (by decide)
theorem bldImm3Rd (n : BitNum) (rd : Reg8) : Statement (.bldImm3Rd n rd) := of_size (n := 2) rfl (by decide)
theorem bldImm3AtERd (n : BitNum) (erd : RegNum) : Statement (.bldImm3AtERd n erd) := of_size (n := 4) rfl (by decide)
theorem bldImm3Aa8 (n : BitNum) (abs : BitVec 8) : Statement (.bldImm3Aa8 n abs) := of_size (n := 4) rfl (by decide)
theorem bldImm3Aa16 (n : BitNum) (abs : BitVec 16) : Statement (.bldImm3Aa16 n abs) := of_size (n := 6) rfl (by decide)
theorem bldImm3Aa32 (n : BitNum) (abs : BitVec 32) : Statement (.bldImm3Aa32 n abs) := of_size (n := 8) rfl (by decide)
theorem bnotImm3Rd (n : BitNum) (rd : Reg8) : Statement (.bnotImm3Rd n rd) := of_size (n := 2) rfl (by decide)
theorem bnotImm3AtERd (n : BitNum) (erd : RegNum) : Statement (.bnotImm3AtERd n erd) := of_size (n := 4) rfl (by decide)
theorem bnotImm3Aa8 (n : BitNum) (abs : BitVec 8) : Statement (.bnotImm3Aa8 n abs) := of_size (n := 4) rfl (by decide)
theorem bnotImm3Aa16 (n : BitNum) (abs : BitVec 16) : Statement (.bnotImm3Aa16 n abs) :=
  of_size (n := 6) rfl (by decide)
theorem bnotImm3Aa32 (n : BitNum) (abs : BitVec 32) : Statement (.bnotImm3Aa32 n abs) :=
  of_size (n := 8) rfl (by decide)
theorem bnotRnRd (rn : Reg8) (rd : Reg8) : Statement (.bnotRnRd rn rd) := of_size (n := 2) rfl (by decide)
theorem bnotRnAtERd (rn : Reg8) (erd : RegNum) : Statement (.bnotRnAtERd rn erd) := of_size (n := 4) rfl (by decide)
theorem bnotRnAa8 (rn : Reg8) (abs : BitVec 8) : Statement (.bnotRnAa8 rn abs) := of_size (n := 4) rfl (by decide)
theorem bnotRnAa16 (rn : Reg8) (abs : BitVec 16) : Statement (.bnotRnAa16 rn abs) := of_size (n := 6) rfl (by decide)
theorem bnotRnAa32 (rn : Reg8) (abs : BitVec 32) : Statement (.bnotRnAa32 rn abs) := of_size (n := 8) rfl (by decide)
theorem borImm3Rd (n : BitNum) (rd : Reg8) : Statement (.borImm3Rd n rd) := of_size (n := 2) rfl (by decide)
theorem borImm3AtERd (n : BitNum) (erd : RegNum) : Statement (.borImm3AtERd n erd) := of_size (n := 4) rfl (by decide)
theorem borImm3Aa8 (n : BitNum) (abs : BitVec 8) : Statement (.borImm3Aa8 n abs) := of_size (n := 4) rfl (by decide)
theorem borImm3Aa16 (n : BitNum) (abs : BitVec 16) : Statement (.borImm3Aa16 n abs) := of_size (n := 6) rfl (by decide)
theorem borImm3Aa32 (n : BitNum) (abs : BitVec 32) : Statement (.borImm3Aa32 n abs) := of_size (n := 8) rfl (by decide)
theorem bsetImm3Rd (n : BitNum) (rd : Reg8) : Statement (.bsetImm3Rd n rd) := of_size (n := 2) rfl (by decide)
theorem bsetImm3AtERd (n : BitNum) (erd : RegNum) : Statement (.bsetImm3AtERd n erd) := of_size (n := 4) rfl (by decide)
theorem bsetImm3Aa8 (n : BitNum) (abs : BitVec 8) : Statement (.bsetImm3Aa8 n abs) := of_size (n := 4) rfl (by decide)
theorem bsetImm3Aa16 (n : BitNum) (abs : BitVec 16) : Statement (.bsetImm3Aa16 n abs) :=
  of_size (n := 6) rfl (by decide)
theorem bsetImm3Aa32 (n : BitNum) (abs : BitVec 32) : Statement (.bsetImm3Aa32 n abs) :=
  of_size (n := 8) rfl (by decide)
theorem bsetRnRd (rn : Reg8) (rd : Reg8) : Statement (.bsetRnRd rn rd) := of_size (n := 2) rfl (by decide)
theorem bsetRnAtERd (rn : Reg8) (erd : RegNum) : Statement (.bsetRnAtERd rn erd) := of_size (n := 4) rfl (by decide)
theorem bsetRnAa8 (rn : Reg8) (abs : BitVec 8) : Statement (.bsetRnAa8 rn abs) := of_size (n := 4) rfl (by decide)
theorem bsetRnAa16 (rn : Reg8) (abs : BitVec 16) : Statement (.bsetRnAa16 rn abs) := of_size (n := 6) rfl (by decide)
theorem bsetRnAa32 (rn : Reg8) (abs : BitVec 32) : Statement (.bsetRnAa32 rn abs) := of_size (n := 8) rfl (by decide)
theorem bstImm3Rd (n : BitNum) (rd : Reg8) : Statement (.bstImm3Rd n rd) := of_size (n := 2) rfl (by decide)
theorem bstImm3AtERd (n : BitNum) (erd : RegNum) : Statement (.bstImm3AtERd n erd) := of_size (n := 4) rfl (by decide)
theorem bstImm3Aa8 (n : BitNum) (abs : BitVec 8) : Statement (.bstImm3Aa8 n abs) := of_size (n := 4) rfl (by decide)
theorem bstImm3Aa16 (n : BitNum) (abs : BitVec 16) : Statement (.bstImm3Aa16 n abs) := of_size (n := 6) rfl (by decide)
theorem bstImm3Aa32 (n : BitNum) (abs : BitVec 32) : Statement (.bstImm3Aa32 n abs) := of_size (n := 8) rfl (by decide)
theorem btstImm3Rd (n : BitNum) (rd : Reg8) : Statement (.btstImm3Rd n rd) := of_size (n := 2) rfl (by decide)
theorem btstImm3AtERd (n : BitNum) (erd : RegNum) : Statement (.btstImm3AtERd n erd) := of_size (n := 4) rfl (by decide)
theorem btstImm3Aa8 (n : BitNum) (abs : BitVec 8) : Statement (.btstImm3Aa8 n abs) := of_size (n := 4) rfl (by decide)
theorem btstImm3Aa16 (n : BitNum) (abs : BitVec 16) : Statement (.btstImm3Aa16 n abs) :=
  of_size (n := 6) rfl (by decide)
theorem btstImm3Aa32 (n : BitNum) (abs : BitVec 32) : Statement (.btstImm3Aa32 n abs) :=
  of_size (n := 8) rfl (by decide)
theorem btstRnRd (rn : Reg8) (rd : Reg8) : Statement (.btstRnRd rn rd) := of_size (n := 2) rfl (by decide)
theorem btstRnAtERd (rn : Reg8) (erd : RegNum) : Statement (.btstRnAtERd rn erd) := of_size (n := 4) rfl (by decide)
theorem btstRnAa8 (rn : Reg8) (abs : BitVec 8) : Statement (.btstRnAa8 rn abs) := of_size (n := 4) rfl (by decide)
theorem btstRnAa16 (rn : Reg8) (abs : BitVec 16) : Statement (.btstRnAa16 rn abs) := of_size (n := 6) rfl (by decide)
theorem btstRnAa32 (rn : Reg8) (abs : BitVec 32) : Statement (.btstRnAa32 rn abs) := of_size (n := 8) rfl (by decide)
theorem bxorImm3Rd (n : BitNum) (rd : Reg8) : Statement (.bxorImm3Rd n rd) := of_size (n := 2) rfl (by decide)
theorem bxorImm3AtERd (n : BitNum) (erd : RegNum) : Statement (.bxorImm3AtERd n erd) := of_size (n := 4) rfl (by decide)
theorem bxorImm3Aa8 (n : BitNum) (abs : BitVec 8) : Statement (.bxorImm3Aa8 n abs) := of_size (n := 4) rfl (by decide)
theorem bxorImm3Aa16 (n : BitNum) (abs : BitVec 16) : Statement (.bxorImm3Aa16 n abs) :=
  of_size (n := 6) rfl (by decide)
theorem bxorImm3Aa32 (n : BitNum) (abs : BitVec 32) : Statement (.bxorImm3Aa32 n abs) :=
  of_size (n := 8) rfl (by decide)
theorem braD8 (disp : BitVec 8) : Statement (.braD8 disp) := of_size (n := 2) rfl (by decide)
theorem braD16 (disp : BitVec 16) : Statement (.braD16 disp) := of_size (n := 4) rfl (by decide)
theorem brnD8 (disp : BitVec 8) : Statement (.brnD8 disp) := of_size (n := 2) rfl (by decide)
theorem brnD16 (disp : BitVec 16) : Statement (.brnD16 disp) := of_size (n := 4) rfl (by decide)
theorem bhiD8 (disp : BitVec 8) : Statement (.bhiD8 disp) := of_size (n := 2) rfl (by decide)
theorem bhiD16 (disp : BitVec 16) : Statement (.bhiD16 disp) := of_size (n := 4) rfl (by decide)
theorem blsD8 (disp : BitVec 8) : Statement (.blsD8 disp) := of_size (n := 2) rfl (by decide)
theorem blsD16 (disp : BitVec 16) : Statement (.blsD16 disp) := of_size (n := 4) rfl (by decide)
theorem bccD8 (disp : BitVec 8) : Statement (.bccD8 disp) := of_size (n := 2) rfl (by decide)
theorem bccD16 (disp : BitVec 16) : Statement (.bccD16 disp) := of_size (n := 4) rfl (by decide)
theorem bcsD8 (disp : BitVec 8) : Statement (.bcsD8 disp) := of_size (n := 2) rfl (by decide)
theorem bcsD16 (disp : BitVec 16) : Statement (.bcsD16 disp) := of_size (n := 4) rfl (by decide)
theorem bneD8 (disp : BitVec 8) : Statement (.bneD8 disp) := of_size (n := 2) rfl (by decide)
theorem bneD16 (disp : BitVec 16) : Statement (.bneD16 disp) := of_size (n := 4) rfl (by decide)
theorem beqD8 (disp : BitVec 8) : Statement (.beqD8 disp) := of_size (n := 2) rfl (by decide)
theorem beqD16 (disp : BitVec 16) : Statement (.beqD16 disp) := of_size (n := 4) rfl (by decide)
theorem bvcD8 (disp : BitVec 8) : Statement (.bvcD8 disp) := of_size (n := 2) rfl (by decide)
theorem bvcD16 (disp : BitVec 16) : Statement (.bvcD16 disp) := of_size (n := 4) rfl (by decide)
theorem bvsD8 (disp : BitVec 8) : Statement (.bvsD8 disp) := of_size (n := 2) rfl (by decide)
theorem bvsD16 (disp : BitVec 16) : Statement (.bvsD16 disp) := of_size (n := 4) rfl (by decide)
theorem bplD8 (disp : BitVec 8) : Statement (.bplD8 disp) := of_size (n := 2) rfl (by decide)
theorem bplD16 (disp : BitVec 16) : Statement (.bplD16 disp) := of_size (n := 4) rfl (by decide)
theorem bmiD8 (disp : BitVec 8) : Statement (.bmiD8 disp) := of_size (n := 2) rfl (by decide)
theorem bmiD16 (disp : BitVec 16) : Statement (.bmiD16 disp) := of_size (n := 4) rfl (by decide)
theorem bgeD8 (disp : BitVec 8) : Statement (.bgeD8 disp) := of_size (n := 2) rfl (by decide)
theorem bgeD16 (disp : BitVec 16) : Statement (.bgeD16 disp) := of_size (n := 4) rfl (by decide)
theorem bltD8 (disp : BitVec 8) : Statement (.bltD8 disp) := of_size (n := 2) rfl (by decide)
theorem bltD16 (disp : BitVec 16) : Statement (.bltD16 disp) := of_size (n := 4) rfl (by decide)
theorem bgtD8 (disp : BitVec 8) : Statement (.bgtD8 disp) := of_size (n := 2) rfl (by decide)
theorem bgtD16 (disp : BitVec 16) : Statement (.bgtD16 disp) := of_size (n := 4) rfl (by decide)
theorem bleD8 (disp : BitVec 8) : Statement (.bleD8 disp) := of_size (n := 2) rfl (by decide)
theorem bleD16 (disp : BitVec 16) : Statement (.bleD16 disp) := of_size (n := 4) rfl (by decide)
theorem jmpAtERn (ern : RegNum) : Statement (.jmpAtERn ern) := of_size (n := 2) rfl (by decide)
theorem jmpAa24 (abs : BitVec 24) : Statement (.jmpAa24 abs) := of_size (n := 4) rfl (by decide)
theorem jmpMemAa8 (abs : BitVec 8) : Statement (.jmpMemAa8 abs) := of_size (n := 2) rfl (by decide)
theorem bsrD8 (disp : BitVec 8) : Statement (.bsrD8 disp) := of_size (n := 2) rfl (by decide)
theorem bsrD16 (disp : BitVec 16) : Statement (.bsrD16 disp) := of_size (n := 4) rfl (by decide)
theorem jsrAtERn (ern : RegNum) : Statement (.jsrAtERn ern) := of_size (n := 2) rfl (by decide)
theorem jsrAa24 (abs : BitVec 24) : Statement (.jsrAa24 abs) := of_size (n := 4) rfl (by decide)
theorem jsrMemAa8 (abs : BitVec 8) : Statement (.jsrMemAa8 abs) := of_size (n := 2) rfl (by decide)
theorem rts : Statement .rts := of_size (n := 2) rfl (by decide)
theorem trapa (imm : BitVec 2) : Statement (.trapa imm) := of_size (n := 2) rfl (by decide)
theorem rte : Statement .rte := of_size (n := 2) rfl (by decide)
theorem sleep : Statement .sleep := of_size (n := 2) rfl (by decide)
theorem nop : Statement .nop := of_size (n := 2) rfl (by decide)
theorem ldcBImm8CCR (imm : BitVec 8) : Statement (.ldcBImm8CCR imm) := of_size (n := 2) rfl (by decide)
theorem ldcBImm8EXR (imm : BitVec 8) : Statement (.ldcBImm8EXR imm) := of_size (n := 4) rfl (by decide)
theorem ldcBRsCCR (rs : Reg8) : Statement (.ldcBRsCCR rs) := of_size (n := 2) rfl (by decide)
theorem ldcBRsEXR (rs : Reg8) : Statement (.ldcBRsEXR rs) := of_size (n := 2) rfl (by decide)
theorem ldcWAtERsCCR (ers : RegNum) : Statement (.ldcWAtERsCCR ers) := of_size (n := 4) rfl (by decide)
theorem ldcWD16ERsCCR (ers : RegNum) (disp : BitVec 16) : Statement (.ldcWD16ERsCCR ers disp) :=
  of_size (n := 6) rfl (by decide)
theorem ldcWD32ERsCCR (ers : RegNum) (disp : BitVec 32) : Statement (.ldcWD32ERsCCR ers disp) :=
  of_size (n := 10) rfl (by decide)
theorem ldcWERsIncCCR (ers : RegNum) : Statement (.ldcWERsIncCCR ers) := of_size (n := 4) rfl (by decide)
theorem ldcWAa16CCR (abs : BitVec 16) : Statement (.ldcWAa16CCR abs) := of_size (n := 6) rfl (by decide)
theorem ldcWAa32CCR (abs : BitVec 32) : Statement (.ldcWAa32CCR abs) := of_size (n := 8) rfl (by decide)
theorem ldcWAtERsEXR (ers : RegNum) : Statement (.ldcWAtERsEXR ers) := of_size (n := 4) rfl (by decide)
theorem ldcWD16ERsEXR (ers : RegNum) (disp : BitVec 16) : Statement (.ldcWD16ERsEXR ers disp) :=
  of_size (n := 6) rfl (by decide)
theorem ldcWD32ERsEXR (ers : RegNum) (disp : BitVec 32) : Statement (.ldcWD32ERsEXR ers disp) :=
  of_size (n := 10) rfl (by decide)
theorem ldcWERsIncEXR (ers : RegNum) : Statement (.ldcWERsIncEXR ers) := of_size (n := 4) rfl (by decide)
theorem ldcWAa16EXR (abs : BitVec 16) : Statement (.ldcWAa16EXR abs) := of_size (n := 6) rfl (by decide)
theorem ldcWAa32EXR (abs : BitVec 32) : Statement (.ldcWAa32EXR abs) := of_size (n := 8) rfl (by decide)
theorem stcBCCRRd (rd : Reg8) : Statement (.stcBCCRRd rd) := of_size (n := 2) rfl (by decide)
theorem stcBEXRRd (rd : Reg8) : Statement (.stcBEXRRd rd) := of_size (n := 2) rfl (by decide)
theorem stcWCCRAtERd (erd : RegNum) : Statement (.stcWCCRAtERd erd) := of_size (n := 4) rfl (by decide)
theorem stcWCCRD16ERd (erd : RegNum) (disp : BitVec 16) : Statement (.stcWCCRD16ERd erd disp) :=
  of_size (n := 6) rfl (by decide)
theorem stcWCCRD32ERd (erd : RegNum) (disp : BitVec 32) : Statement (.stcWCCRD32ERd erd disp) :=
  of_size (n := 10) rfl (by decide)
theorem stcWCCRDecERd (erd : RegNum) : Statement (.stcWCCRDecERd erd) := of_size (n := 4) rfl (by decide)
theorem stcWCCRAa16 (abs : BitVec 16) : Statement (.stcWCCRAa16 abs) := of_size (n := 6) rfl (by decide)
theorem stcWCCRAa32 (abs : BitVec 32) : Statement (.stcWCCRAa32 abs) := of_size (n := 8) rfl (by decide)
theorem stcWEXRAtERd (erd : RegNum) : Statement (.stcWEXRAtERd erd) := of_size (n := 4) rfl (by decide)
theorem stcWEXRD16ERd (erd : RegNum) (disp : BitVec 16) : Statement (.stcWEXRD16ERd erd disp) :=
  of_size (n := 6) rfl (by decide)
theorem stcWEXRD32ERd (erd : RegNum) (disp : BitVec 32) : Statement (.stcWEXRD32ERd erd disp) :=
  of_size (n := 10) rfl (by decide)
theorem stcWEXRDecERd (erd : RegNum) : Statement (.stcWEXRDecERd erd) := of_size (n := 4) rfl (by decide)
theorem stcWEXRAa16 (abs : BitVec 16) : Statement (.stcWEXRAa16 abs) := of_size (n := 6) rfl (by decide)
theorem stcWEXRAa32 (abs : BitVec 32) : Statement (.stcWEXRAa32 abs) := of_size (n := 8) rfl (by decide)
theorem andcImm8CCR (imm : BitVec 8) : Statement (.andcImm8CCR imm) := of_size (n := 2) rfl (by decide)
theorem andcImm8EXR (imm : BitVec 8) : Statement (.andcImm8EXR imm) := of_size (n := 4) rfl (by decide)
theorem orcImm8CCR (imm : BitVec 8) : Statement (.orcImm8CCR imm) := of_size (n := 2) rfl (by decide)
theorem orcImm8EXR (imm : BitVec 8) : Statement (.orcImm8EXR imm) := of_size (n := 4) rfl (by decide)
theorem xorcImm8CCR (imm : BitVec 8) : Statement (.xorcImm8CCR imm) := of_size (n := 2) rfl (by decide)
theorem xorcImm8EXR (imm : BitVec 8) : Statement (.xorcImm8EXR imm) := of_size (n := 4) rfl (by decide)
theorem eepmovB : Statement .eepmovB := of_size (n := 4) rfl (by decide)
theorem eepmovW : Statement .eepmovW := of_size (n := 4) rfl (by decide)

end Sys2Proof.Laws.EncodedSize
end

