-- ==== Sys2Proof/Laws/Step.lean ====
section
/-! SUPPORT. Everything one step can do, said once (R81, R461, R484). -/

namespace Sys2Proof.Machine

/-! ### The boundary -/

/-- What a step looks for in the noted changes of memory is what the statements say. -/
theorem storesInto_iff (keys : List Nat) (t : State) : storesInto keys t = true ↔ StoresInto keys t.writes := by
  simp [storesInto, reaches, StoresInto]

theorem prefetchKeys_eq (i : Instr) (s : State) : prefetchKeys i s = prefetchWindow i.size s := rfl

theorem touchesCode_iff (s : State) : touchesCode s = true ↔ ActsOnCode s := by
  simp [touchesCode, reaches, ActsOnCode, prefetchWindow, codeAddr]

/-- The state with which a step begins (R81). -/
theorem atBoundary_spec (s : State) : AtBoundary s (atBoundary s) where
  mem := rfl
  env := rfl
  writes := rfl
  stale := by rw [← touchesCode_iff]; simp [atBoundary]
  registers := ⟨rfl, rfl, rfl, rfl⟩
  mac := ⟨rfl, rfl, rfl, rfl, rfl⟩
  rest := ⟨rfl, rfl, rfl, rfl, rfl⟩

/-- The environment's act at a boundary keeps the canonical form. -/
theorem atBoundary_wf {s : State} (h : s.mem.wf = true) : (atBoundary s).mem.wf = true := (environmentActs_logged 1 s).wf h

/-- At a boundary at which the environment does nothing memory stays. -/
theorem atBoundary_of_idle {s : State} (h : s.env.acts = []) : atBoundary s = { s with writes := [] } := by
  unfold atBoundary touchesCode
  rw [environmentActs_none 1 h, h]
  simp

/-! ### What the CPU goes on to do -/

/-- An instruction at PC: it was decoded and executed, and nothing had been stored into what was prefetched of it (R484, R85). -/
theorem runInstruction_cases {s : State} {d : Deed} (h : runInstruction s = .next d) :
    s.stale = false ∧ ∃ i u, decode (instrBytes s) = some i ∧ exec i (beginInstr s) = .next u ∧
      d = { ends := endInstr s u, window := prefetchWindow i.size s } := by
  unfold runInstruction at h
  split at h
  · cases h
  · refine ⟨by simpa using ‹¬s.stale = true›, ?_⟩
    split at h
    · cases h
    · rename_i i hi
      split at h
      · rename_i u hu
        exact ⟨i, u, hi, hu, by cases h; rfl⟩
      · cases h
      · cases h

/-- What the end of an instruction changes: the offers only, and at granularity `instruction` only. -/
theorem endInstr_cases (s t : State) :
    endInstr s t = { t with env := { t.env with offers := (endInstr s t).env.offers } } := by
  unfold endInstr
  split <;> rfl

theorem endInstr_sameBus (s t : State) : SameBus t (endInstr s t) := by
  rw [endInstr_cases]
  exact ⟨rfl, rfl, rfl, rfl⟩

theorem beginInstr_sameBus (s : State) : SameBus s (beginInstr s) :=
  (passOfferInside_sameBus s).trans ⟨rfl, rfl, rfl, rfl⟩

/-- A waiting CPU goes on by a trace sequence, an interrupt sequence, or keeps waiting. -/
theorem waitForException_cases (s : State) :
    traceDue s = true ∧ waitForException s = traceSequence s ∨
    traceDue s = false ∧ (∃ req, acceptedRequest s = some req ∧ waitForException s = interruptSequence req s) ∨
    traceDue s = false ∧ acceptedRequest s = none ∧ waitForException s = passOffer s := by
  unfold waitForException
  cases ht : traceDue s <;> cases ha : acceptedRequest s <;> simp

/-- What the CPU can go on to do with RES and STBY high. -/
theorem undertake_cases {s : State} {d : Deed} (h : undertake s = .next d) :
    d.window = [] ∧
      (s.procState = .reset ∧ d.ends = resetSequence s.env.resetKind s ∨
        s.procState = .hardwareStandby ∧ d.ends = s ∨
        (s.procState = .exceptionHandling ∨ s.procState = .busReleased) ∧
          (d.ends = s ∨ d.ends = { s with procState := .programExecution }) ∨
        (s.procState = .sleep ∨ s.procState = .softwareStandby) ∧ d.ends = waitForException s ∨
        s.procState = .programExecution ∧
          (s.env.busRequest = true ∧ d.ends = { s with procState := .busReleased } ∨
            s.env.busRequest = false ∧ traceDue s = true ∧ d.ends = traceSequence s ∨
            s.env.busRequest = false ∧ traceDue s = false ∧
              ∃ req, acceptedRequest s = some req ∧ d.ends = interruptSequence req s)) ∨
    s.procState = .programExecution ∧ s.env.busRequest = false ∧ traceDue s = false ∧ acceptedRequest s = none ∧
      runInstruction s = .next d := by
  unfold undertake at h
  cases hp : s.procState <;> simp only [hp, withoutWindow] at h
  case reset => cases h; exact .inl ⟨rfl, .inl ⟨rfl, rfl⟩⟩
  case hardwareStandby => cases h; exact .inl ⟨rfl, .inr (.inl ⟨rfl, rfl⟩)⟩
  case exceptionHandling => cases h; exact .inl ⟨rfl, .inr (.inr (.inl ⟨.inl rfl, .inr rfl⟩))⟩
  case busReleased =>
    cases h
    refine .inl ⟨rfl, .inr (.inr (.inl ⟨.inr rfl, ?_⟩))⟩
    cases s.env.busRequest
    · exact .inr rfl
    · exact .inl rfl
  case sleep => cases h; exact .inl ⟨rfl, .inr (.inr (.inr (.inl ⟨.inl rfl, rfl⟩)))⟩
  case softwareStandby => cases h; exact .inl ⟨rfl, .inr (.inr (.inr (.inl ⟨.inr rfl, rfl⟩)))⟩
  case programExecution =>
    cases hb : s.env.busRequest <;> simp only [hb, Bool.false_eq_true, if_false, if_true] at h
    · cases ht : traceDue s <;> simp only [ht, Bool.false_eq_true, if_false, if_true] at h
      · cases ha : acceptedRequest s <;> simp only [ha] at h
        · exact .inr ⟨rfl, rfl, rfl, rfl, h⟩
        · cases h; exact .inl ⟨rfl, .inr (.inr (.inr (.inr ⟨rfl, .inr (.inr ⟨rfl, rfl, _, rfl, rfl⟩)⟩)))⟩
      · cases h; exact .inl ⟨rfl, .inr (.inr (.inr (.inr ⟨rfl, .inr (.inl ⟨rfl, rfl, rfl⟩)⟩)))⟩
    · cases h; exact .inl ⟨rfl, .inr (.inr (.inr (.inr ⟨rfl, .inl ⟨rfl, rfl⟩⟩)))⟩

/-- An instruction at PC is what the CPU goes on to do: nothing keeps it from that (R484). -/
theorem undertake_executes {s : State} (h : s.Executes) : undertake s = runInstruction s := by
  unfold undertake
  simp only [h.running, h.noBusRequest, h.noTraceDue, h.noInterrupt, Bool.false_eq_true, if_false]

/-! ### The end of it -/

/-- A deed that is concluded: its window has not been stored into (R85). -/
theorem conclude_next {f : State → State} {d : Deed} (h : ¬ StoresInto d.window (f d.ends).writes) :
    conclude f (.next d) = .next (f d.ends) := by
  rw [← storesInto_iff] at h
  simp [conclude, h]

theorem conclude_refused {f : State → State} {d : Deed} (h : StoresInto d.window (f d.ends).writes) :
    conclude f (.next d) = .refused .storeIntoPrefetch := by
  rw [← storesInto_iff] at h
  simp [conclude, h]

theorem conclude_cases {f : State → State} {o : Host.Outcome Deed Fault Refusal} {t : State} (h : conclude f o = .next t) :
    ∃ d, o = .next d ∧ ¬ StoresInto d.window (f d.ends).writes ∧ t = f d.ends := by
  cases o with
  | next d =>
    by_cases hs : StoresInto d.window (f d.ends).writes
    · rw [conclude_refused hs] at h; cases h
    · rw [conclude_next hs] at h; exact ⟨d, rfl, hs, by cases h; rfl⟩
  | fault r => cases h
  | refused r => cases h

/-- Nothing is stored into an empty window. -/
theorem not_storesInto_nil (changes : List MemoryChange) : ¬ StoresInto [] changes := by simp [StoresInto]

/-! ### Reset and STBY -/

/-- RES or STBY seen at the boundary: nothing is begun. -/
theorem cutShort_atBoundary {s : State} (enter : State → State) (h : s.SeenAtBoundary) : cutShort enter s = .next (enter s) := by
  unfold cutShort
  cases hg : s.cfg.granularity <;> cases ha : s.env.arrival <;> simp_all [State.SeenAtBoundary]

/-- RES or STBY seen after `n` write cycles: what the CPU went on to do is abandoned there (R520). -/
theorem cutShort_inside {s : State} {n : Nat} (enter : State → State) (hg : s.cfg.granularity = .busCycle)
    (ha : s.env.arrival = .afterWrites n) (hp : s.procState ≠ .reset) :
    cutShort enter s = conclude (fun t => enter (abandoned n s t)) (undertake s) := by
  unfold cutShort
  rw [hg, ha]
  simp only [if_neg hp]

/-- The two places where RES or STBY is seen. -/
theorem seen_cases (s : State) :
    s.SeenAtBoundary ∨ ∃ n, s.cfg.granularity = .busCycle ∧ s.env.arrival = .afterWrites n ∧ s.procState ≠ .reset := by
  unfold State.SeenAtBoundary
  cases s.cfg.granularity <;> cases s.env.arrival <;> simp
  exact em _

/-- The two ways in which RES or STBY leads to a next state. -/
theorem cutShort_cases {s t : State} {enter : State → State} (h : cutShort enter s = .next t) :
    s.SeenAtBoundary ∧ t = enter s ∨
    ∃ n d, s.cfg.granularity = .busCycle ∧ s.env.arrival = .afterWrites n ∧ s.procState ≠ .reset ∧
      undertake s = .next d ∧ ¬ StoresInto d.window (enter (abandoned n s d.ends)).writes ∧ t = enter (abandoned n s d.ends) := by
  rcases seen_cases s with hs | ⟨n, hg, ha, hp⟩
  · rw [cutShort_atBoundary enter hs] at h
    cases h
    exact .inl ⟨hs, rfl⟩
  · rw [cutShort_inside enter hg ha hp] at h
    obtain ⟨d, hd, hw, rfl⟩ := conclude_cases h
    exact .inr ⟨n, d, hg, ha, hp, hd, hw, rfl⟩

/-- Changes of memory up to the write cycle after `n`. -/
theorem cutAfter_changesUpTo (n : Nat) (changes : List MemoryChange) : CutAfter n changes (changesUpTo n changes) := by
  induction changes generalizing n with
  | nil => exact ⟨[], rfl, .inl ⟨rfl, Nat.zero_le n⟩⟩
  | cons c changes ih =>
    cases c with
    | environment c =>
      obtain ⟨rest, hr, h⟩ := ih n
      exact ⟨rest, by rw [changesUpTo, List.cons_append, ← hr], by simpa [changesUpTo, cpuCycles] using h⟩
    | cpu c =>
      cases n with
      | zero => exact ⟨_, rfl, .inr ⟨rfl, c, changes, rfl⟩⟩
      | succ n =>
        obtain ⟨rest, hr, h⟩ := ih n
        exact ⟨rest, by rw [changesUpTo, List.cons_append, ← hr], by simpa [changesUpTo, cpuCycles] using h⟩

/-- The changes noted in an abandoned state are those performed. -/
theorem abandoned_writes (n : Nat) (s t : State) : (abandoned n s t).writes.reverse = changesUpTo n t.writes.reverse :=
  List.reverse_reverse _

/-- What abandoning leaves, when the changes of memory are noted in `t` from none on. -/
theorem abandoned_leaves {s t : State} (n : Nat) (hw : s.writes = []) (hl : Logged s t) (hc : t.cfg = s.cfg)
    (hi : t.env.inputs = s.env.inputs) : LeavesChanges (changesUpTo n t.writes.reverse) s (abandoned n s t) where
  memory := rfl
  acts := by
    obtain ⟨c, h, -, ha⟩ := hl
    obtain ⟨rest, hr, -⟩ := cutAfter_changesUpTo n t.writes.reverse
    have he : environmentWrites c.reverse = environmentWrites (changesUpTo n t.writes.reverse) ++ environmentWrites rest := by
      rw [← environmentWrites_append, ← hr, h, hw, List.append_nil]
    rw [ha, he]
    simp [abandoned, ha, he]
  cfg := hc
  inputs := hi

/-- The memory an abandoned instruction leaves is in canonical form. -/
theorem abandoned_wf {s : State} (n : Nat) (t : State) (h : s.mem.wf = true) : (abandoned n s t).mem.wf = true :=
  performChanges_wf _ _ h

/-! ### One step -/

/-- Everything a step with a next state can have done, from the state at the boundary: reset before STBY before all else (R467,
R520). -/
theorem step_cases {s t : State} (h : step s = .next t) :
    let b := atBoundary s
    s.env.resetAsserted = true ∧ cutShort enterReset b = .next t ∨
    s.env.resetAsserted = false ∧ s.env.standbyAsserted = true ∧
      (s.procState = .hardwareStandby ∧ t = b ∨
        s.procState ≠ .hardwareStandby ∧ cutShort enterHardwareStandby b = .next t) ∨
    s.env.resetAsserted = false ∧ s.env.standbyAsserted = false ∧
      ∃ d, undertake b = .next d ∧ ¬ StoresInto d.window d.ends.writes ∧ t = d.ends := by
  intro b
  unfold step boundary boundaryDecision at h
  have hb : b.env.resetAsserted = s.env.resetAsserted ∧ b.env.standbyAsserted = s.env.standbyAsserted ∧
    b.procState = s.procState := ⟨rfl, rfl, rfl⟩
  change (if b.env.resetAsserted = true then _ else _) = _ at h
  rw [hb.1, hb.2.1, hb.2.2] at h
  cases hr : s.env.resetAsserted <;> simp only [hr, Bool.false_eq_true, if_false, if_true] at h
  · cases hs : s.env.standbyAsserted <;> simp only [hs, Bool.false_eq_true, if_false, if_true] at h
    · exact .inr (.inr ⟨rfl, rfl, conclude_cases h⟩)
    · refine .inr (.inl ⟨rfl, rfl, ?_⟩)
      split at h
      · cases h; exact .inl ⟨‹_›, rfl⟩
      · exact .inr ⟨‹_›, h⟩
  · exact .inl ⟨rfl, h⟩

/-- With RES and STBY high the CPU does whole what it undertakes. -/
theorem step_proceeds {s : State} (hr : s.env.resetAsserted = false) (hs : s.env.standbyAsserted = false) :
    step s = conclude (fun t => t) (undertake (atBoundary s)) := by
  have hb : (atBoundary s).env.resetAsserted = false ∧ (atBoundary s).env.standbyAsserted = false := ⟨hr, hs⟩
  unfold step boundary boundaryDecision
  rw [hb.1, hb.2]
  rfl

/-- An instruction at PC is executed: nothing keeps the machine from it (R484). -/
theorem step_executes {s : State} (h : (atBoundary s).Executes) :
    step s = conclude (fun t => t) (runInstruction (atBoundary s)) := by
  rw [step_proceeds (s := s) h.noReset h.noStandby, undertake_executes h]

/-- An interrupt sequence takes its exception (R475). -/
theorem interruptSequence_spec (req : Request) (s : State) :
    TakesException s.pc req.vector (if exrValid s.cfg then { s.exr with level := req.newLevel } else s.exr) s
      (interruptSequence req s) := by
  obtain ⟨h1, h2, ⟨any, ⟨h3, h4, h5, h6⟩, h7⟩, h8, h9, h10, h11⟩ := takeException_spec s.pc req.vector
    (if exrValid s.cfg then { s.exr with level := req.newLevel } else s.exr) s
  constructor <;> first | assumption | exact ⟨any, ⟨h3, h4, h5, h6⟩, h7⟩

/-- A trace sequence takes its exception (R474). -/
theorem traceSequence_spec (s : State) :
    TakesException s.pc s.cfg.traceVector { s.exr with t := false } s (traceSequence s) := by
  obtain ⟨h1, h2, ⟨any, ⟨h3, h4, h5, h6⟩, h7⟩, h8, h9, h10, h11⟩ :=
    takeException_spec s.pc s.cfg.traceVector { s.exr with t := false } s
  constructor <;> first | assumption | exact ⟨any, ⟨h3, h4, h5, h6⟩, h7⟩

/-- What an interrupt sequence leaves besides: the offer accepted is gone. -/
theorem interruptSequence_rest (req : Request) (s : State) :
    SameEnv { s with env := { s.env with offers := s.env.offers.tail } } (interruptSequence req s) ∧
      (interruptSequence req s).procState = .programExecution ∧ (interruptSequence req s).inhibit = s.inhibit ∧
      (interruptSequence req s).noTrace = false ∧ (interruptSequence req s).stale = false := by
  obtain ⟨h1, -, h3, -⟩ := takeException_rest s.pc req.vector
    (if exrValid s.cfg then { s.exr with level := req.newLevel } else s.exr) s
  refine ⟨?_, rfl, h3, rfl, rfl⟩
  simp only [SameEnv, interruptSequence]
  rw [h1]

/-- What a trace sequence leaves besides. -/
theorem traceSequence_rest (s : State) :
    SameEnv s (traceSequence s) ∧ (traceSequence s).procState = .programExecution ∧ (traceSequence s).inhibit = false ∧
      (traceSequence s).noTrace = false ∧ (traceSequence s).stale = false :=
  ⟨(takeException_rest s.pc s.cfg.traceVector { s.exr with t := false } s).1, rfl, rfl, rfl, rfl⟩

theorem interruptSequence_logged (req : Request) (s : State) : Logged s (interruptSequence req s) :=
  (takeException_logged s.pc req.vector (if exrValid s.cfg then { s.exr with level := req.newLevel } else s.exr)
    s).congr ⟨rfl, rfl, rfl, rfl⟩

theorem traceSequence_logged (s : State) : Logged s (traceSequence s) :=
  (takeException_logged s.pc s.cfg.traceVector { s.exr with t := false } s).congr ⟨rfl, rfl, rfl, rfl⟩

/-- The offers after an examination point are a tail of those before. -/
theorem laterOffers_suffix (offers : List (Option Request)) : laterOffers offers <:+ offers := by
  unfold laterOffers
  split
  · exact List.suffix_cons _ _
  · exact List.suffix_rfl

theorem passOffer_suffix (s : State) : (passOffer s).env.offers <:+ s.env.offers := by
  unfold passOffer
  split
  · exact List.suffix_rfl
  · exact laterOffers_suffix s.env.offers

theorem passOfferInside_suffix (s : State) : (passOfferInside s).env.offers <:+ s.env.offers := by
  unfold passOfferInside
  split
  · exact List.suffix_rfl
  · exact passOffer_suffix s

theorem copyBytesW_suffix (n : Nat) (s : State) : (copyBytesW n s).env.offers <:+ s.env.offers := by
  induction n generalizing s with
  | zero => exact List.suffix_rfl
  | succ n ih =>
    simp only [copyBytesW]
    split
    · exact List.suffix_rfl
    · exact (ih _).trans (passOfferInside_suffix _)

end Sys2Proof.Machine
end

