-- ==== Sys2Proof/Tests/Slice0.lean ====
section
/-! SUPPORT. Tests: ill-formed terms refused, words of the encoding tables decoded, single steps with the results of the spec's
own examples (the rule is named at each), and witnesses that the hypotheses of the statements can be met. -/

namespace Sys2Proof.Machine.Tests

noncomputable section

set_option Elab.async false

/-! ### WellFormed: for each check an ill-formed term that it refuses, and one that it lets through -/

theorem test_wf_ldm2 : (Instr.ldmL2 2).wellFormed = false ∧ (Instr.ldmL2 3).wellFormed = true := by decide
theorem test_wf_ldm3 : (Instr.ldmL3 4).wellFormed = false ∧ (Instr.ldmL3 6).wellFormed = true := by decide
theorem test_wf_ldm4 : (Instr.ldmL4 5).wellFormed = false ∧ (Instr.ldmL4 7).wellFormed = true := by decide
theorem test_wf_stm2 : (Instr.stmL2 1).wellFormed = false ∧ (Instr.stmL2 6).wellFormed = true := by decide
theorem test_wf_stm3 : (Instr.stmL3 2).wellFormed = false ∧ (Instr.stmL3 4).wellFormed = true := by decide
theorem test_wf_stm4 : (Instr.stmL4 6).wellFormed = false ∧ (Instr.stmL4 4).wellFormed = true := by decide
theorem test_wf_tas : (Instr.tasAtERd 2).wellFormed = false ∧ (Instr.tasAtERd 5).wellFormed = true := by decide
theorem test_wf_pop_word :
    (Instr.movWERsIncRd 7 (.r 0)).wellFormed = false ∧ (Instr.movWERsIncRd 6 (.r 0)).wellFormed = true := by decide
theorem test_wf_pop_long :
    (Instr.movLERsIncERd 7 0).wellFormed = false ∧ (Instr.movLERsIncERd 6 0).wellFormed = true := by decide
theorem test_wf_push_word :
    (Instr.movWRsDecERd (.r 0) 7).wellFormed = false ∧ (Instr.movWRsDecERd (.r 0) 6).wellFormed = true := by decide
theorem test_wf_push_long :
    (Instr.movLERsDecERd 0 7).wellFormed = false ∧ (Instr.movLERsDecERd 0 6).wellFormed = true := by decide

/-! ### Decoding: for every constructor a word of the spec's (the example of its rule), read and written back -/

/-- Each word decodes to its instruction, and the instruction is encoded as that word. -/
def agree (words : List (List Byte × Instr)) : Bool :=
  words.all fun p => decode p.1 == some p.2 && encode p.2 == p.1

theorem test_decode_mov_b : agree [
    ([0x0C#8, 0x92#8], .movBRsRd (.l 1) (.h 2)),
    ([0xF8#8, 0x80#8], .movBImm8Rd 0x80#8 (.l 0)),
    ([0x68#8, 0x1A#8], .movBAtERsRd 1 (.l 2)),
    ([0x6E#8, 0x10#8, 0xFF#8, 0xFE#8], .movBD16ERsRd 1 0xFFFE#16 (.h 0)),
    ([0x78#8, 0x10#8, 0x6A#8, 0x28#8, 0x00#8, 0x01#8, 0x00#8, 0x00#8], .movBD32ERsRd 1 0x00010000#32 (.l 0)),
    ([0x6C#8, 0x18#8], .movBERsIncRd 1 (.l 0)),
    ([0x23#8, 0xC7#8], .movBAa8Rd 0xC7#8 (.h 3)),
    ([0x6A#8, 0x08#8, 0x80#8, 0x00#8], .movBAa16Rd 0x8000#16 (.l 0)),
    ([0x6A#8, 0x28#8, 0x00#8, 0x20#8, 0x00#8, 0x00#8], .movBAa32Rd 0x00200000#32 (.l 0)),
    ([0x68#8, 0x9A#8], .movBRsAtERd (.l 2) 1),
    ([0x6E#8, 0x9A#8, 0x00#8, 0x10#8], .movBRsD16ERd (.l 2) 1 0x0010#16),
    ([0x78#8, 0x10#8, 0x6A#8, 0xAA#8, 0x00#8, 0x10#8, 0x00#8, 0x00#8], .movBRsD32ERd (.l 2) 1 0x00100000#32),
    ([0x6C#8, 0x99#8], .movBRsDecERd (.l 1) 1),
    ([0x3A#8, 0xC7#8], .movBRsAa8 (.l 2) 0xC7#8),
    ([0x6A#8, 0x8A#8, 0xFF#8, 0x00#8], .movBRsAa16 (.l 2) 0xFF00#16),
    ([0x6A#8, 0xAA#8, 0x00#8, 0x20#8, 0x00#8, 0x00#8], .movBRsAa32 (.l 2) 0x00200000#32)] = true := by decide +kernel

theorem test_decode_mov_w : agree [
    ([0x0D#8, 0x92#8], .movWRsRd (.e 1) (.r 2)),
    ([0x79#8, 0x03#8, 0x12#8, 0x34#8], .movWImm16Rd 0x1234#16 (.r 3)),
    ([0x69#8, 0x12#8], .movWAtERsRd 1 (.r 2)),
    ([0x6F#8, 0x1A#8, 0x00#8, 0x04#8], .movWD16ERsRd 1 0x0004#16 (.e 2)),
    ([0x78#8, 0x10#8, 0x6B#8, 0x22#8, 0x00#8, 0x00#8, 0x10#8, 0x00#8], .movWD32ERsRd 1 0x00001000#32 (.r 2)),
    ([0x6D#8, 0x12#8], .movWERsIncRd 1 (.r 2)),
    ([0x6B#8, 0x02#8, 0x10#8, 0x01#8], .movWAa16Rd 0x1001#16 (.r 2)),
    ([0x6B#8, 0x22#8, 0x00#8, 0x01#8, 0x00#8, 0x00#8], .movWAa32Rd 0x00010000#32 (.r 2)),
    ([0x69#8, 0x92#8], .movWRsAtERd (.r 2) 1),
    ([0x6F#8, 0x9A#8, 0x00#8, 0x02#8], .movWRsD16ERd (.e 2) 1 0x0002#16),
    ([0x78#8, 0x10#8, 0x6B#8, 0xA2#8, 0x00#8, 0x00#8, 0x20#8, 0x00#8], .movWRsD32ERd (.r 2) 1 0x00002000#32),
    ([0x6D#8, 0x91#8], .movWRsDecERd (.r 1) 1),
    ([0x6B#8, 0x82#8, 0x10#8, 0x00#8], .movWRsAa16 (.r 2) 0x1000#16),
    ([0x6B#8, 0xA2#8, 0x00#8, 0x01#8, 0x00#8, 0x01#8], .movWRsAa32 (.r 2) 0x00010001#32)] = true := by decide +kernel

theorem test_decode_mov_l : agree [
    ([0x0F#8, 0x92#8], .movLERsERd 1 2),
    ([0x7A#8, 0x07#8, 0x00#8, 0xFF#8, 0xF0#8, 0x00#8], .movLImm32ERd 0x00FFF000#32 7),
    ([0x01#8, 0x00#8, 0x69#8, 0x12#8], .movLAtERsERd 1 2),
    ([0x01#8, 0x00#8, 0x6F#8, 0x12#8, 0xFF#8, 0xFC#8], .movLD16ERsERd 1 0xFFFC#16 2),
    ([0x01#8, 0x00#8, 0x78#8, 0x10#8, 0x6B#8, 0x22#8, 0x00#8, 0x00#8, 0x10#8, 0x00#8], .movLD32ERsERd 1 0x00001000#32 2),
    ([0x01#8, 0x00#8, 0x6D#8, 0x12#8], .movLERsIncERd 1 2),
    ([0x01#8, 0x00#8, 0x6B#8, 0x02#8, 0x10#8, 0x00#8], .movLAa16ERd 0x1000#16 2),
    ([0x01#8, 0x00#8, 0x6B#8, 0x22#8, 0x00#8, 0x01#8, 0x00#8, 0x00#8], .movLAa32ERd 0x00010000#32 2),
    ([0x01#8, 0x00#8, 0x69#8, 0x92#8], .movLERsAtERd 2 1),
    ([0x01#8, 0x00#8, 0x6F#8, 0x92#8, 0x00#8, 0x08#8], .movLERsD16ERd 2 1 0x0008#16),
    ([0x01#8, 0x00#8, 0x78#8, 0x10#8, 0x6B#8, 0xA2#8, 0x00#8, 0x00#8, 0x30#8, 0x00#8], .movLERsD32ERd 2 1 0x00003000#32),
    ([0x01#8, 0x00#8, 0x6D#8, 0x91#8], .movLERsDecERd 1 1),
    ([0x01#8, 0x00#8, 0x6B#8, 0x82#8, 0x10#8, 0x00#8], .movLERsAa16 2 0x1000#16),
    ([0x01#8, 0x00#8, 0x6B#8, 0xA2#8, 0x00#8, 0x01#8, 0x00#8, 0x00#8], .movLERsAa32 2 0x00010000#32)] = true := by decide +kernel

theorem test_decode_pop : agree [
    ([0x6D#8, 0x73#8], .popWRn (.r 3)),
    ([0x01#8, 0x00#8, 0x6D#8, 0x72#8], .popLERn 2)] = true := by decide +kernel

theorem test_decode_push : agree [
    ([0x6D#8, 0xF7#8], .pushWRn (.r 7)),
    ([0x01#8, 0x00#8, 0x6D#8, 0xF1#8], .pushLERn 1)] = true := by decide +kernel

theorem test_decode_ldm : agree [
    ([0x01#8, 0x10#8, 0x6D#8, 0x73#8], .ldmL2 3),
    ([0x01#8, 0x20#8, 0x6D#8, 0x72#8], .ldmL3 2),
    ([0x01#8, 0x30#8, 0x6D#8, 0x73#8], .ldmL4 3)] = true := by decide +kernel

theorem test_decode_stm : agree [
    ([0x01#8, 0x10#8, 0x6D#8, 0xF2#8], .stmL2 2),
    ([0x01#8, 0x20#8, 0x6D#8, 0xF0#8], .stmL3 0),
    ([0x01#8, 0x30#8, 0x6D#8, 0xF4#8], .stmL4 4)] = true := by decide +kernel

theorem test_decode_movfpe : agree [
    ([0x6A#8, 0x48#8, 0xFF#8, 0x00#8], .movfpeAa16Rd 0xFF00#16 (.l 0))] = true := by decide +kernel

theorem test_decode_movtpe : agree [
    ([0x6A#8, 0xC8#8, 0xFF#8, 0x00#8], .movtpeRsAa16 (.l 0) 0xFF00#16)] = true := by decide +kernel

theorem test_decode_add : agree [
    ([0x88#8, 0x01#8], .addBImm8Rd 0x01#8 (.l 0)),
    ([0x08#8, 0x89#8], .addBRsRd (.l 0) (.l 1)),
    ([0x79#8, 0x10#8, 0x00#8, 0x01#8], .addWImm16Rd 0x0001#16 (.r 0)),
    ([0x09#8, 0x01#8], .addWRsRd (.r 0) (.r 1)),
    ([0x7A#8, 0x10#8, 0x00#8, 0x00#8, 0x00#8, 0x01#8], .addLImm32ERd 0x00000001#32 0),
    ([0x0A#8, 0x81#8], .addLERsERd 0 1)] = true := by decide +kernel

theorem test_decode_adds : agree [
    ([0x0B#8, 0x01#8], .addsBy1ERd 1),
    ([0x0B#8, 0x87#8], .addsBy2ERd 7),
    ([0x0B#8, 0x97#8], .addsBy4ERd 7)] = true := by decide +kernel

theorem test_decode_addx : agree [
    ([0x98#8, 0x00#8], .addxImm8Rd 0x00#8 (.l 0)),
    ([0x0E#8, 0x89#8], .addxRsRd (.l 0) (.l 1))] = true := by decide +kernel

theorem test_decode_sub : agree [
    ([0x18#8, 0x89#8], .subBRsRd (.l 0) (.l 1)),
    ([0x79#8, 0x30#8, 0x00#8, 0x01#8], .subWImm16Rd 0x0001#16 (.r 0)),
    ([0x19#8, 0x01#8], .subWRsRd (.r 0) (.r 1)),
    ([0x7A#8, 0x30#8, 0x00#8, 0x00#8, 0x00#8, 0x01#8], .subLImm32ERd 0x00000001#32 0),
    ([0x1A#8, 0x81#8], .subLERsERd 0 1)] = true := by decide +kernel

theorem test_decode_subs : agree [
    ([0x1B#8, 0x01#8], .subsBy1ERd 1),
    ([0x1B#8, 0x87#8], .subsBy2ERd 7),
    ([0x1B#8, 0x97#8], .subsBy4ERd 7)] = true := by decide +kernel

theorem test_decode_subx : agree [
    ([0xB8#8, 0x00#8], .subxImm8Rd 0x00#8 (.l 0)),
    ([0x1E#8, 0x89#8], .subxRsRd (.l 0) (.l 1))] = true := by decide +kernel

theorem test_decode_cmp : agree [
    ([0xA8#8, 0x80#8], .cmpBImm8Rd 0x80#8 (.l 0)),
    ([0x1C#8, 0x89#8], .cmpBRsRd (.l 0) (.l 1)),
    ([0x79#8, 0x20#8, 0x00#8, 0x10#8], .cmpWImm16Rd 0x0010#16 (.r 0)),
    ([0x1D#8, 0x01#8], .cmpWRsRd (.r 0) (.r 1)),
    ([0x7A#8, 0x20#8, 0x00#8, 0x00#8, 0x00#8, 0x00#8], .cmpLImm32ERd 0x00000000#32 0),
    ([0x1F#8, 0x81#8], .cmpLERsERd 0 1)] = true := by decide +kernel

theorem test_decode_inc : agree [
    ([0x0A#8, 0x08#8], .incBRd (.l 0)),
    ([0x0B#8, 0x50#8], .incWBy1Rd (.r 0)),
    ([0x0B#8, 0xD0#8], .incWBy2Rd (.r 0)),
    ([0x0B#8, 0x70#8], .incLBy1ERd 0),
    ([0x0B#8, 0xF0#8], .incLBy2ERd 0)] = true := by decide +kernel

theorem test_decode_dec : agree [
    ([0x1A#8, 0x08#8], .decBRd (.l 0)),
    ([0x1B#8, 0x50#8], .decWBy1Rd (.r 0)),
    ([0x1B#8, 0xD0#8], .decWBy2Rd (.r 0)),
    ([0x1B#8, 0x70#8], .decLBy1ERd 0),
    ([0x1B#8, 0xF0#8], .decLBy2ERd 0)] = true := by decide +kernel

theorem test_decode_neg : agree [
    ([0x17#8, 0x88#8], .negBRd (.l 0)),
    ([0x17#8, 0x90#8], .negWRd (.r 0)),
    ([0x17#8, 0xB0#8], .negLERd 0)] = true := by decide +kernel

theorem test_decode_daa : agree [
    ([0x0F#8, 0x08#8], .daaRd (.l 0))] = true := by decide +kernel

theorem test_decode_das : agree [
    ([0x1F#8, 0x08#8], .dasRd (.l 0))] = true := by decide +kernel

theorem test_decode_mulxu : agree [
    ([0x50#8, 0x81#8], .mulxuBRsRd (.l 0) (.r 1)),
    ([0x52#8, 0x01#8], .mulxuWRsERd (.r 0) 1)] = true := by decide +kernel

theorem test_decode_mulxs : agree [
    ([0x01#8, 0xC0#8, 0x50#8, 0x81#8], .mulxsBRsRd (.l 0) (.r 1)),
    ([0x01#8, 0xC0#8, 0x52#8, 0x01#8], .mulxsWRsERd (.r 0) 1)] = true := by decide +kernel

theorem test_decode_divxu : agree [
    ([0x51#8, 0x81#8], .divxuBRsRd (.l 0) (.r 1)),
    ([0x53#8, 0x01#8], .divxuWRsERd (.r 0) 1)] = true := by decide +kernel

theorem test_decode_divxs : agree [
    ([0x01#8, 0xD0#8, 0x51#8, 0x81#8], .divxsBRsRd (.l 0) (.r 1)),
    ([0x01#8, 0xD0#8, 0x53#8, 0x01#8], .divxsWRsERd (.r 0) 1)] = true := by decide +kernel

theorem test_decode_extu : agree [
    ([0x17#8, 0x50#8], .extuWRd (.r 0)),
    ([0x17#8, 0x70#8], .extuLERd 0)] = true := by decide +kernel

theorem test_decode_exts : agree [
    ([0x17#8, 0xD0#8], .extsWRd (.r 0)),
    ([0x17#8, 0xF1#8], .extsLERd 1)] = true := by decide +kernel

theorem test_decode_tas : agree [
    ([0x01#8, 0xE0#8, 0x7B#8, 0x0C#8], .tasAtERd 0)] = true := by decide +kernel

theorem test_decode_mac : agree [
    ([0x01#8, 0x60#8, 0x6D#8, 0x12#8], .macERnIncERmInc 1 2)] = true := by decide +kernel

theorem test_decode_clrmac : agree [
    ([0x01#8, 0xA0#8], .clrmac)] = true := by decide +kernel

theorem test_decode_ldmac : agree [
    ([0x03#8, 0x20#8], .ldmacERsMACH 0),
    ([0x03#8, 0x31#8], .ldmacERsMACL 1)] = true := by decide +kernel

theorem test_decode_stmac : agree [
    ([0x02#8, 0x23#8], .stmacMACHERd 3),
    ([0x02#8, 0x30#8], .stmacMACLERd 0)] = true := by decide +kernel

theorem test_decode_and : agree [
    ([0xE8#8, 0x0F#8], .andBImm8Rd 0x0F#8 (.l 0)),
    ([0x16#8, 0x89#8], .andBRsRd (.l 0) (.l 1)),
    ([0x79#8, 0x60#8, 0x80#8, 0x00#8], .andWImm16Rd 0x8000#16 (.r 0)),
    ([0x66#8, 0x01#8], .andWRsRd (.r 0) (.r 1)),
    ([0x7A#8, 0x60#8, 0xFF#8, 0xFF#8, 0x00#8, 0x00#8], .andLImm32ERd 0xFFFF0000#32 0),
    ([0x01#8, 0xF0#8, 0x66#8, 0x01#8], .andLERsERd 0 1)] = true := by decide +kernel

theorem test_decode_or : agree [
    ([0xC8#8, 0x80#8], .orBImm8Rd 0x80#8 (.l 0)),
    ([0x14#8, 0x89#8], .orBRsRd (.l 0) (.l 1)),
    ([0x79#8, 0x40#8, 0x00#8, 0x0F#8], .orWImm16Rd 0x000F#16 (.r 0)),
    ([0x64#8, 0x01#8], .orWRsRd (.r 0) (.r 1)),
    ([0x7A#8, 0x40#8, 0x00#8, 0x00#8, 0x00#8, 0x01#8], .orLImm32ERd 0x00000001#32 0),
    ([0x01#8, 0xF0#8, 0x64#8, 0x01#8], .orLERsERd 0 1)] = true := by decide +kernel

theorem test_decode_xor : agree [
    ([0xD8#8, 0xFF#8], .xorBImm8Rd 0xFF#8 (.l 0)),
    ([0x15#8, 0x88#8], .xorBRsRd (.l 0) (.l 0)),
    ([0x79#8, 0x50#8, 0xFF#8, 0xFF#8], .xorWImm16Rd 0xFFFF#16 (.r 0)),
    ([0x65#8, 0x01#8], .xorWRsRd (.r 0) (.r 1)),
    ([0x7A#8, 0x50#8, 0x80#8, 0x00#8, 0x00#8, 0x00#8], .xorLImm32ERd 0x80000000#32 0),
    ([0x01#8, 0xF0#8, 0x65#8, 0x01#8], .xorLERsERd 0 1)] = true := by decide +kernel

theorem test_decode_not : agree [
    ([0x17#8, 0x08#8], .notBRd (.l 0)),
    ([0x17#8, 0x10#8], .notWRd (.r 0)),
    ([0x17#8, 0x31#8], .notLERd 1)] = true := by decide +kernel

theorem test_decode_shal : agree [
    ([0x10#8, 0x88#8], .shalBRd (.l 0)),
    ([0x10#8, 0xC8#8], .shalBBy2Rd (.l 0)),
    ([0x10#8, 0x90#8], .shalWRd (.r 0)),
    ([0x10#8, 0xD0#8], .shalWBy2Rd (.r 0)),
    ([0x10#8, 0xB0#8], .shalLERd 0),
    ([0x10#8, 0xF0#8], .shalLBy2ERd 0)] = true := by decide +kernel

theorem test_decode_shar : agree [
    ([0x11#8, 0x88#8], .sharBRd (.l 0)),
    ([0x11#8, 0xC8#8], .sharBBy2Rd (.l 0)),
    ([0x11#8, 0x90#8], .sharWRd (.r 0)),
    ([0x11#8, 0xD0#8], .sharWBy2Rd (.r 0)),
    ([0x11#8, 0xB0#8], .sharLERd 0),
    ([0x11#8, 0xF0#8], .sharLBy2ERd 0)] = true := by decide +kernel

theorem test_decode_shll : agree [
    ([0x10#8, 0x08#8], .shllBRd (.l 0)),
    ([0x10#8, 0x48#8], .shllBBy2Rd (.l 0)),
    ([0x10#8, 0x10#8], .shllWRd (.r 0)),
    ([0x10#8, 0x50#8], .shllWBy2Rd (.r 0)),
    ([0x10#8, 0x30#8], .shllLERd 0),
    ([0x10#8, 0x70#8], .shllLBy2ERd 0)] = true := by decide +kernel

theorem test_decode_shlr : agree [
    ([0x11#8, 0x08#8], .shlrBRd (.l 0)),
    ([0x11#8, 0x48#8], .shlrBBy2Rd (.l 0)),
    ([0x11#8, 0x10#8], .shlrWRd (.r 0)),
    ([0x11#8, 0x50#8], .shlrWBy2Rd (.r 0)),
    ([0x11#8, 0x30#8], .shlrLERd 0),
    ([0x11#8, 0x70#8], .shlrLBy2ERd 0)] = true := by decide +kernel

theorem test_decode_rotl : agree [
    ([0x12#8, 0x88#8], .rotlBRd (.l 0)),
    ([0x12#8, 0xC8#8], .rotlBBy2Rd (.l 0)),
    ([0x12#8, 0x90#8], .rotlWRd (.r 0)),
    ([0x12#8, 0xD0#8], .rotlWBy2Rd (.r 0)),
    ([0x12#8, 0xB0#8], .rotlLERd 0),
    ([0x12#8, 0xF0#8], .rotlLBy2ERd 0)] = true := by decide +kernel

theorem test_decode_rotr : agree [
    ([0x13#8, 0x88#8], .rotrBRd (.l 0)),
    ([0x13#8, 0xC8#8], .rotrBBy2Rd (.l 0)),
    ([0x13#8, 0x90#8], .rotrWRd (.r 0)),
    ([0x13#8, 0xD0#8], .rotrWBy2Rd (.r 0)),
    ([0x13#8, 0xB0#8], .rotrLERd 0),
    ([0x13#8, 0xF0#8], .rotrLBy2ERd 0)] = true := by decide +kernel

theorem test_decode_rotxl : agree [
    ([0x12#8, 0x08#8], .rotxlBRd (.l 0)),
    ([0x12#8, 0x48#8], .rotxlBBy2Rd (.l 0)),
    ([0x12#8, 0x10#8], .rotxlWRd (.r 0)),
    ([0x12#8, 0x50#8], .rotxlWBy2Rd (.r 0)),
    ([0x12#8, 0x30#8], .rotxlLERd 0),
    ([0x12#8, 0x70#8], .rotxlLBy2ERd 0)] = true := by decide +kernel

theorem test_decode_rotxr : agree [
    ([0x13#8, 0x08#8], .rotxrBRd (.l 0)),
    ([0x13#8, 0x48#8], .rotxrBBy2Rd (.l 0)),
    ([0x13#8, 0x10#8], .rotxrWRd (.r 0)),
    ([0x13#8, 0x50#8], .rotxrWBy2Rd (.r 0)),
    ([0x13#8, 0x30#8], .rotxrLERd 0),
    ([0x13#8, 0x70#8], .rotxrLBy2ERd 0)] = true := by decide +kernel

theorem test_decode_band : agree [
    ([0x76#8, 0x5A#8], .bandImm3Rd 5 (.l 2)),
    ([0x7C#8, 0x30#8, 0x76#8, 0x30#8], .bandImm3AtERd 3 3),
    ([0x7E#8, 0xC7#8, 0x76#8, 0x70#8], .bandImm3Aa8 7 0xC7#8),
    ([0x6A#8, 0x10#8, 0x80#8, 0x00#8, 0x76#8, 0x00#8], .bandImm3Aa16 0 0x8000#16),
    ([0x6A#8, 0x30#8, 0x00#8, 0x20#8, 0x00#8, 0x00#8, 0x76#8, 0x70#8], .bandImm3Aa32 7 0x00200000#32)] = true := by decide +kernel

theorem test_decode_bclr : agree [
    ([0x72#8, 0x5A#8], .bclrImm3Rd 5 (.l 2)),
    ([0x7D#8, 0x30#8, 0x72#8, 0x30#8], .bclrImm3AtERd 3 3),
    ([0x7F#8, 0xC7#8, 0x72#8, 0x70#8], .bclrImm3Aa8 7 0xC7#8),
    ([0x6A#8, 0x18#8, 0x80#8, 0x00#8, 0x72#8, 0x00#8], .bclrImm3Aa16 0 0x8000#16),
    ([0x6A#8, 0x38#8, 0x00#8, 0x20#8, 0x00#8, 0x00#8, 0x72#8, 0x70#8], .bclrImm3Aa32 7 0x00200000#32),
    ([0x62#8, 0x9A#8], .bclrRnRd (.l 1) (.l 2)),
    ([0x7D#8, 0x30#8, 0x62#8, 0x90#8], .bclrRnAtERd (.l 1) 3),
    ([0x7F#8, 0xC7#8, 0x62#8, 0x90#8], .bclrRnAa8 (.l 1) 0xC7#8),
    ([0x6A#8, 0x18#8, 0x80#8, 0x00#8, 0x62#8, 0x90#8], .bclrRnAa16 (.l 1) 0x8000#16),
    ([0x6A#8, 0x38#8, 0x00#8, 0x20#8, 0x00#8, 0x00#8, 0x62#8, 0x90#8], .bclrRnAa32 (.l 1) 0x00200000#32)] = true := by decide +kernel

theorem test_decode_biand : agree [
    ([0x76#8, 0xDA#8], .biandImm3Rd 5 (.l 2)),
    ([0x7C#8, 0x30#8, 0x76#8, 0xB0#8], .biandImm3AtERd 3 3),
    ([0x7E#8, 0xC7#8, 0x76#8, 0xF0#8], .biandImm3Aa8 7 0xC7#8),
    ([0x6A#8, 0x10#8, 0x80#8, 0x00#8, 0x76#8, 0x80#8], .biandImm3Aa16 0 0x8000#16),
    ([0x6A#8, 0x30#8, 0x00#8, 0x20#8, 0x00#8, 0x00#8, 0x76#8, 0xF0#8], .biandImm3Aa32 7 0x00200000#32)] = true := by decide +kernel

theorem test_decode_bild : agree [
    ([0x77#8, 0xDA#8], .bildImm3Rd 5 (.l 2)),
    ([0x7C#8, 0x30#8, 0x77#8, 0xB0#8], .bildImm3AtERd 3 3),
    ([0x7E#8, 0xC7#8, 0x77#8, 0xF0#8], .bildImm3Aa8 7 0xC7#8),
    ([0x6A#8, 0x10#8, 0x80#8, 0x00#8, 0x77#8, 0x80#8], .bildImm3Aa16 0 0x8000#16),
    ([0x6A#8, 0x30#8, 0x00#8, 0x20#8, 0x00#8, 0x00#8, 0x77#8, 0xF0#8], .bildImm3Aa32 7 0x00200000#32)] = true := by decide +kernel

theorem test_decode_bior : agree [
    ([0x74#8, 0xDA#8], .biorImm3Rd 5 (.l 2)),
    ([0x7C#8, 0x30#8, 0x74#8, 0xB0#8], .biorImm3AtERd 3 3),
    ([0x7E#8, 0xC7#8, 0x74#8, 0xF0#8], .biorImm3Aa8 7 0xC7#8),
    ([0x6A#8, 0x10#8, 0x80#8, 0x00#8, 0x74#8, 0x80#8], .biorImm3Aa16 0 0x8000#16),
    ([0x6A#8, 0x30#8, 0x00#8, 0x20#8, 0x00#8, 0x00#8, 0x74#8, 0xF0#8], .biorImm3Aa32 7 0x00200000#32)] = true := by decide +kernel

theorem test_decode_bist : agree [
    ([0x67#8, 0xDA#8], .bistImm3Rd 5 (.l 2)),
    ([0x7D#8, 0x30#8, 0x67#8, 0xB0#8], .bistImm3AtERd 3 3),
    ([0x7F#8, 0xC7#8, 0x67#8, 0xF0#8], .bistImm3Aa8 7 0xC7#8),
    ([0x6A#8, 0x18#8, 0x80#8, 0x00#8, 0x67#8, 0x80#8], .bistImm3Aa16 0 0x8000#16),
    ([0x6A#8, 0x38#8, 0x00#8, 0x20#8, 0x00#8, 0x00#8, 0x67#8, 0xF0#8], .bistImm3Aa32 7 0x00200000#32)] = true := by decide +kernel

theorem test_decode_bixor : agree [
    ([0x75#8, 0xDA#8], .bixorImm3Rd 5 (.l 2)),
    ([0x7C#8, 0x30#8, 0x75#8, 0xB0#8], .bixorImm3AtERd 3 3),
    ([0x7E#8, 0xC7#8, 0x75#8, 0xF0#8], .bixorImm3Aa8 7 0xC7#8),
    ([0x6A#8, 0x10#8, 0x80#8, 0x00#8, 0x75#8, 0x80#8], .bixorImm3Aa16 0 0x8000#16),
    ([0x6A#8, 0x30#8, 0x00#8, 0x20#8, 0x00#8, 0x00#8, 0x75#8, 0xF0#8], .bixorImm3Aa32 7 0x00200000#32)] = true := by decide +kernel

theorem test_decode_bld : agree [
    ([0x77#8, 0x5A#8], .bldImm3Rd 5 (.l 2)),
    ([0x7C#8, 0x30#8, 0x77#8, 0x30#8], .bldImm3AtERd 3 3),
    ([0x7E#8, 0xC7#8, 0x77#8, 0x70#8], .bldImm3Aa8 7 0xC7#8),
    ([0x6A#8, 0x10#8, 0x80#8, 0x00#8, 0x77#8, 0x00#8], .bldImm3Aa16 0 0x8000#16),
    ([0x6A#8, 0x30#8, 0x00#8, 0x20#8, 0x00#8, 0x00#8, 0x77#8, 0x70#8], .bldImm3Aa32 7 0x00200000#32)] = true := by decide +kernel

theorem test_decode_bnot : agree [
    ([0x71#8, 0x5A#8], .bnotImm3Rd 5 (.l 2)),
    ([0x7D#8, 0x30#8, 0x71#8, 0x30#8], .bnotImm3AtERd 3 3),
    ([0x7F#8, 0xC7#8, 0x71#8, 0x70#8], .bnotImm3Aa8 7 0xC7#8),
    ([0x6A#8, 0x18#8, 0x80#8, 0x00#8, 0x71#8, 0x00#8], .bnotImm3Aa16 0 0x8000#16),
    ([0x6A#8, 0x38#8, 0x00#8, 0x20#8, 0x00#8, 0x00#8, 0x71#8, 0x70#8], .bnotImm3Aa32 7 0x00200000#32),
    ([0x61#8, 0x9A#8], .bnotRnRd (.l 1) (.l 2)),
    ([0x7D#8, 0x30#8, 0x61#8, 0x90#8], .bnotRnAtERd (.l 1) 3),
    ([0x7F#8, 0xC7#8, 0x61#8, 0x90#8], .bnotRnAa8 (.l 1) 0xC7#8),
    ([0x6A#8, 0x18#8, 0x80#8, 0x00#8, 0x61#8, 0x90#8], .bnotRnAa16 (.l 1) 0x8000#16),
    ([0x6A#8, 0x38#8, 0x00#8, 0x20#8, 0x00#8, 0x00#8, 0x61#8, 0x90#8], .bnotRnAa32 (.l 1) 0x00200000#32)] = true := by decide +kernel

theorem test_decode_bor : agree [
    ([0x74#8, 0x5A#8], .borImm3Rd 5 (.l 2)),
    ([0x7C#8, 0x30#8, 0x74#8, 0x30#8], .borImm3AtERd 3 3),
    ([0x7E#8, 0xC7#8, 0x74#8, 0x70#8], .borImm3Aa8 7 0xC7#8),
    ([0x6A#8, 0x10#8, 0x80#8, 0x00#8, 0x74#8, 0x00#8], .borImm3Aa16 0 0x8000#16),
    ([0x6A#8, 0x30#8, 0x00#8, 0x20#8, 0x00#8, 0x00#8, 0x74#8, 0x70#8], .borImm3Aa32 7 0x00200000#32)] = true := by decide +kernel

theorem test_decode_bset : agree [
    ([0x70#8, 0x5A#8], .bsetImm3Rd 5 (.l 2)),
    ([0x7D#8, 0x30#8, 0x70#8, 0x30#8], .bsetImm3AtERd 3 3),
    ([0x7F#8, 0xC7#8, 0x70#8, 0x70#8], .bsetImm3Aa8 7 0xC7#8),
    ([0x6A#8, 0x18#8, 0x80#8, 0x00#8, 0x70#8, 0x00#8], .bsetImm3Aa16 0 0x8000#16),
    ([0x6A#8, 0x38#8, 0x00#8, 0x20#8, 0x00#8, 0x00#8, 0x70#8, 0x70#8], .bsetImm3Aa32 7 0x00200000#32),
    ([0x60#8, 0x9A#8], .bsetRnRd (.l 1) (.l 2)),
    ([0x7D#8, 0x30#8, 0x60#8, 0x90#8], .bsetRnAtERd (.l 1) 3),
    ([0x7F#8, 0xC7#8, 0x60#8, 0x90#8], .bsetRnAa8 (.l 1) 0xC7#8),
    ([0x6A#8, 0x18#8, 0x80#8, 0x00#8, 0x60#8, 0x90#8], .bsetRnAa16 (.l 1) 0x8000#16),
    ([0x6A#8, 0x38#8, 0x00#8, 0x20#8, 0x00#8, 0x00#8, 0x60#8, 0x90#8], .bsetRnAa32 (.l 1) 0x00200000#32)] = true := by decide +kernel

theorem test_decode_bst : agree [
    ([0x67#8, 0x5A#8], .bstImm3Rd 5 (.l 2)),
    ([0x7D#8, 0x30#8, 0x67#8, 0x30#8], .bstImm3AtERd 3 3),
    ([0x7F#8, 0xC7#8, 0x67#8, 0x70#8], .bstImm3Aa8 7 0xC7#8),
    ([0x6A#8, 0x18#8, 0x80#8, 0x00#8, 0x67#8, 0x00#8], .bstImm3Aa16 0 0x8000#16),
    ([0x6A#8, 0x38#8, 0x00#8, 0x20#8, 0x00#8, 0x00#8, 0x67#8, 0x70#8], .bstImm3Aa32 7 0x00200000#32)] = true := by decide +kernel

theorem test_decode_btst : agree [
    ([0x73#8, 0x5A#8], .btstImm3Rd 5 (.l 2)),
    ([0x7C#8, 0x30#8, 0x73#8, 0x30#8], .btstImm3AtERd 3 3),
    ([0x7E#8, 0xC7#8, 0x73#8, 0x70#8], .btstImm3Aa8 7 0xC7#8),
    ([0x6A#8, 0x10#8, 0x80#8, 0x00#8, 0x73#8, 0x00#8], .btstImm3Aa16 0 0x8000#16),
    ([0x6A#8, 0x30#8, 0x00#8, 0x20#8, 0x00#8, 0x00#8, 0x73#8, 0x70#8], .btstImm3Aa32 7 0x00200000#32),
    ([0x63#8, 0x9A#8], .btstRnRd (.l 1) (.l 2)),
    ([0x7C#8, 0x30#8, 0x63#8, 0x90#8], .btstRnAtERd (.l 1) 3),
    ([0x7E#8, 0xC7#8, 0x63#8, 0x90#8], .btstRnAa8 (.l 1) 0xC7#8),
    ([0x6A#8, 0x10#8, 0x80#8, 0x00#8, 0x63#8, 0x90#8], .btstRnAa16 (.l 1) 0x8000#16),
    ([0x6A#8, 0x30#8, 0x00#8, 0x20#8, 0x00#8, 0x00#8, 0x63#8, 0x90#8], .btstRnAa32 (.l 1) 0x00200000#32)] = true := by decide +kernel

theorem test_decode_bxor : agree [
    ([0x75#8, 0x5A#8], .bxorImm3Rd 5 (.l 2)),
    ([0x7C#8, 0x30#8, 0x75#8, 0x30#8], .bxorImm3AtERd 3 3),
    ([0x7E#8, 0xC7#8, 0x75#8, 0x70#8], .bxorImm3Aa8 7 0xC7#8),
    ([0x6A#8, 0x10#8, 0x80#8, 0x00#8, 0x75#8, 0x00#8], .bxorImm3Aa16 0 0x8000#16),
    ([0x6A#8, 0x30#8, 0x00#8, 0x20#8, 0x00#8, 0x00#8, 0x75#8, 0x70#8], .bxorImm3Aa32 7 0x00200000#32)] = true := by decide +kernel

theorem test_decode_jmp : agree [
    ([0x59#8, 0x30#8], .jmpAtERn 3),
    ([0x5A#8, 0x01#8, 0x23#8, 0x44#8], .jmpAa24 0x012344#24),
    ([0x5B#8, 0x30#8], .jmpMemAa8 0x30#8)] = true := by decide +kernel

theorem test_decode_bsr : agree [
    ([0x55#8, 0x10#8], .bsrD8 0x10#8),
    ([0x5C#8, 0x00#8, 0xFF#8, 0xFC#8], .bsrD16 0xFFFC#16)] = true := by decide +kernel

theorem test_decode_jsr : agree [
    ([0x5D#8, 0x20#8], .jsrAtERn 2),
    ([0x5E#8, 0x00#8, 0x20#8, 0x00#8], .jsrAa24 0x002000#24),
    ([0x5F#8, 0x30#8], .jsrMemAa8 0x30#8)] = true := by decide +kernel

theorem test_decode_rts : agree [
    ([0x54#8, 0x70#8], .rts)] = true := by decide +kernel

theorem test_decode_trapa : agree [
    ([0x57#8, 0x20#8], .trapa 0x2#2)] = true := by decide +kernel

theorem test_decode_rte : agree [
    ([0x56#8, 0x70#8], .rte)] = true := by decide +kernel

theorem test_decode_sleep : agree [
    ([0x01#8, 0x80#8], .sleep)] = true := by decide +kernel

theorem test_decode_nop : agree [
    ([0x00#8, 0x00#8], .nop)] = true := by decide +kernel

theorem test_decode_ldc : agree [
    ([0x07#8, 0x80#8], .ldcBImm8CCR 0x80#8),
    ([0x01#8, 0x41#8, 0x07#8, 0x07#8], .ldcBImm8EXR 0x07#8),
    ([0x03#8, 0x08#8], .ldcBRsCCR (.l 0)),
    ([0x03#8, 0x18#8], .ldcBRsEXR (.l 0)),
    ([0x01#8, 0x40#8, 0x69#8, 0x30#8], .ldcWAtERsCCR 3),
    ([0x01#8, 0x40#8, 0x6F#8, 0x30#8, 0x00#8, 0x10#8], .ldcWD16ERsCCR 3 0x0010#16),
    ([0x01#8, 0x40#8, 0x78#8, 0x30#8, 0x6B#8, 0x20#8, 0x00#8, 0x00#8, 0x01#8, 0x00#8], .ldcWD32ERsCCR 3 0x00000100#32),
    ([0x01#8, 0x40#8, 0x6D#8, 0x70#8], .ldcWERsIncCCR 7),
    ([0x01#8, 0x40#8, 0x6B#8, 0x00#8, 0x20#8, 0x00#8], .ldcWAa16CCR 0x2000#16),
    ([0x01#8, 0x40#8, 0x6B#8, 0x20#8, 0x00#8, 0x20#8, 0x00#8, 0x00#8], .ldcWAa32CCR 0x00200000#32),
    ([0x01#8, 0x41#8, 0x69#8, 0x30#8], .ldcWAtERsEXR 3),
    ([0x01#8, 0x41#8, 0x6F#8, 0x30#8, 0x00#8, 0x10#8], .ldcWD16ERsEXR 3 0x0010#16),
    ([0x01#8, 0x41#8, 0x78#8, 0x30#8, 0x6B#8, 0x20#8, 0x00#8, 0x00#8, 0x01#8, 0x00#8], .ldcWD32ERsEXR 3 0x00000100#32),
    ([0x01#8, 0x41#8, 0x6D#8, 0x70#8], .ldcWERsIncEXR 7),
    ([0x01#8, 0x41#8, 0x6B#8, 0x00#8, 0x20#8, 0x00#8], .ldcWAa16EXR 0x2000#16),
    ([0x01#8, 0x41#8, 0x6B#8, 0x20#8, 0x00#8, 0x20#8, 0x00#8, 0x00#8], .ldcWAa32EXR 0x00200000#32)] = true := by decide +kernel

theorem test_decode_stc : agree [
    ([0x02#8, 0x08#8], .stcBCCRRd (.l 0)),
    ([0x02#8, 0x18#8], .stcBEXRRd (.l 0)),
    ([0x01#8, 0x40#8, 0x69#8, 0xB0#8], .stcWCCRAtERd 3),
    ([0x01#8, 0x40#8, 0x6F#8, 0xB0#8, 0x00#8, 0x10#8], .stcWCCRD16ERd 3 0x0010#16),
    ([0x01#8, 0x40#8, 0x78#8, 0x30#8, 0x6B#8, 0xA0#8, 0x00#8, 0x00#8, 0x01#8, 0x00#8], .stcWCCRD32ERd 3 0x00000100#32),
    ([0x01#8, 0x40#8, 0x6D#8, 0xF0#8], .stcWCCRDecERd 7),
    ([0x01#8, 0x40#8, 0x6B#8, 0x80#8, 0x20#8, 0x00#8], .stcWCCRAa16 0x2000#16),
    ([0x01#8, 0x40#8, 0x6B#8, 0xA0#8, 0x00#8, 0x20#8, 0x00#8, 0x00#8], .stcWCCRAa32 0x00200000#32),
    ([0x01#8, 0x41#8, 0x69#8, 0xB0#8], .stcWEXRAtERd 3),
    ([0x01#8, 0x41#8, 0x6F#8, 0xB0#8, 0x00#8, 0x10#8], .stcWEXRD16ERd 3 0x0010#16),
    ([0x01#8, 0x41#8, 0x78#8, 0x30#8, 0x6B#8, 0xA0#8, 0x00#8, 0x00#8, 0x01#8, 0x00#8], .stcWEXRD32ERd 3 0x00000100#32),
    ([0x01#8, 0x41#8, 0x6D#8, 0xF0#8], .stcWEXRDecERd 7),
    ([0x01#8, 0x41#8, 0x6B#8, 0x80#8, 0x20#8, 0x00#8], .stcWEXRAa16 0x2000#16),
    ([0x01#8, 0x41#8, 0x6B#8, 0xA0#8, 0x00#8, 0x20#8, 0x00#8, 0x00#8], .stcWEXRAa32 0x00200000#32)] = true := by decide +kernel

theorem test_decode_andc : agree [
    ([0x06#8, 0x7F#8], .andcImm8CCR 0x7F#8),
    ([0x01#8, 0x41#8, 0x06#8, 0xF8#8], .andcImm8EXR 0xF8#8)] = true := by decide +kernel

theorem test_decode_orc : agree [
    ([0x04#8, 0x80#8], .orcImm8CCR 0x80#8),
    ([0x01#8, 0x41#8, 0x04#8, 0x80#8], .orcImm8EXR 0x80#8)] = true := by decide +kernel

theorem test_decode_xorc : agree [
    ([0x05#8, 0x01#8], .xorcImm8CCR 0x01#8),
    ([0x01#8, 0x41#8, 0x05#8, 0x87#8], .xorcImm8EXR 0x87#8)] = true := by decide +kernel

theorem test_decode_eepmov : agree [
    ([0x7B#8, 0x5C#8, 0x59#8, 0x8F#8], .eepmovB),
    ([0x7B#8, 0xD4#8, 0x59#8, 0x8F#8], .eepmovW)] = true := by decide +kernel

theorem test_decode_bcc : agree [
    ([0x40#8, 0xFE#8], .braD8 0xFE#8),
    ([0x58#8, 0x00#8, 0x01#8, 0x00#8], .braD16 0x0100#16),
    ([0x41#8, 0xFE#8], .brnD8 0xFE#8),
    ([0x58#8, 0x10#8, 0x01#8, 0x00#8], .brnD16 0x0100#16),
    ([0x42#8, 0xFE#8], .bhiD8 0xFE#8),
    ([0x58#8, 0x20#8, 0x01#8, 0x00#8], .bhiD16 0x0100#16),
    ([0x43#8, 0xFE#8], .blsD8 0xFE#8),
    ([0x58#8, 0x30#8, 0x01#8, 0x00#8], .blsD16 0x0100#16),
    ([0x44#8, 0xFE#8], .bccD8 0xFE#8),
    ([0x58#8, 0x40#8, 0x01#8, 0x00#8], .bccD16 0x0100#16),
    ([0x45#8, 0xFE#8], .bcsD8 0xFE#8),
    ([0x58#8, 0x50#8, 0x01#8, 0x00#8], .bcsD16 0x0100#16),
    ([0x46#8, 0xFE#8], .bneD8 0xFE#8),
    ([0x58#8, 0x60#8, 0x01#8, 0x00#8], .bneD16 0x0100#16),
    ([0x47#8, 0xFE#8], .beqD8 0xFE#8),
    ([0x58#8, 0x70#8, 0x01#8, 0x00#8], .beqD16 0x0100#16),
    ([0x48#8, 0xFE#8], .bvcD8 0xFE#8),
    ([0x58#8, 0x80#8, 0x01#8, 0x00#8], .bvcD16 0x0100#16),
    ([0x49#8, 0xFE#8], .bvsD8 0xFE#8),
    ([0x58#8, 0x90#8, 0x01#8, 0x00#8], .bvsD16 0x0100#16),
    ([0x4A#8, 0xFE#8], .bplD8 0xFE#8),
    ([0x58#8, 0xA0#8, 0x01#8, 0x00#8], .bplD16 0x0100#16),
    ([0x4B#8, 0xFE#8], .bmiD8 0xFE#8),
    ([0x58#8, 0xB0#8, 0x01#8, 0x00#8], .bmiD16 0x0100#16),
    ([0x4C#8, 0xFE#8], .bgeD8 0xFE#8),
    ([0x58#8, 0xC0#8, 0x01#8, 0x00#8], .bgeD16 0x0100#16),
    ([0x4D#8, 0xFE#8], .bltD8 0xFE#8),
    ([0x58#8, 0xD0#8, 0x01#8, 0x00#8], .bltD16 0x0100#16),
    ([0x4E#8, 0xFE#8], .bgtD8 0xFE#8),
    ([0x58#8, 0xE0#8, 0x01#8, 0x00#8], .bgtD16 0x0100#16),
    ([0x4F#8, 0xFE#8], .bleD8 0xFE#8),
    ([0x58#8, 0xF0#8, 0x01#8, 0x00#8], .bleD16 0x0100#16)] = true := by decide +kernel

/-- Undefined encodings (R114): a 0 nibble that is not 0, a register bit that must be 0, a prefix with a word it does not admit,
register lists and registers that are not listed, an empty row of the maps, a word cut short. -/
theorem test_decode_undefined :
    decode [0x00#8, 0x01#8] = none ∧ decode [0x0B#8, 0x08#8] = none ∧ decode [0x01#8, 0x00#8, 0x0D#8, 0x01#8] = none ∧
    decode [0x01#8, 0x10#8, 0x6D#8, 0x72#8] = none ∧ decode [0x01#8, 0x20#8, 0x6D#8, 0xF2#8] = none ∧
    decode [0x01#8, 0xE0#8, 0x7B#8, 0x2C#8] = none ∧ decode [0x57#8, 0x40#8] = none ∧
    decode [0x58#8, 0x71#8, 0x00#8, 0x00#8] = none ∧ decode [0x79#8] = none := by decide +kernel

/-- A table word is read in the table's own numbering (R120; log 32). -/
theorem test_table_word :
    decodeTableWord 16 0x0C92 = some (.movBRsRd (.l 1) (.h 2)) ∧ decodeTableWord 32 0x01F06401 = some (.orLERsERd 0 1) ∧
    decodeTableWord 32 0x640101F0 = some (.orLERsERd 0 1) := by decide +kernel

/-! ### Single steps -/

/-- The start of a test: reset, ready to fetch at H'001000. -/
def start : State := { readyToFetch State.reset with pc := 0x1000#24 }

/-- Bytes placed in memory. -/
def poke (s : State) (a : Nat) : List Byte → State
  | [] => s
  | b :: rest => poke { s with mem := writeByte s.mem a b } (a + 1) rest

/-- Memory from `a` on holds these bytes. -/
def holds (s : State) (a : Nat) : List Byte → Bool
  | [] => true
  | b :: rest => readByte s.mem a == b && holds s (a + 1) rest

/-- N, Z, V and C. -/
def nzvc (s : State) : List Bool := [s.ccr.n, s.ccr.z, s.ccr.v, s.ccr.c]

/-- The instruction of these bytes is placed at PC, one step is taken, and the next state has `p`. -/
def ran (bytes : List Byte) (s : State) (p : State → Bool) : Bool :=
  match step (placeWords bytes 0 s) with
  | .next t => p t && t.mem.wf
  | _ => false

/-- `s` with C, or another field of CCR, as given. -/
def withCcr (s : State) (v : Byte) : State := setCcr s (Ccr.ofByte v)

/-- R150. -/
theorem test_mov_postinc :
    ran [0x6C#8, 0x18#8] (poke (setER start 1 0x2000) 0x2000 [0xFF#8]) (fun t =>
      getReg8 t (.l 0) == 0xFF#8 && getER t 1 == 0x2001#32 && t.ccr.n && !t.ccr.z && !t.ccr.v && t.pc == 0x1002#24) = true := by
  decide +kernel

/-- R169. -/
theorem test_mov_predec_same_register :
    ran [0x6C#8, 0x99#8] (setER start 1 0x1000) (fun t =>
      getER t 1 == 0x0FFF#32 && holds t 0x0FFF [0xFF#8] && t.ccr.n && !t.ccr.z && !t.ccr.v) = true := by decide +kernel

/-- R186. -/
theorem test_pop_long :
    ran [0x01#8, 0x00#8, 0x6D#8, 0x72#8] (poke (setER start 7 0xFFEFFC) 0xFFEFFC [0xFF#8, 0xFF#8, 0xFF#8, 0xFE#8]) (fun t =>
      getER t 2 == 0xFFFFFFFE#32 && getER t 7 == 0xFFF000#32 && t.ccr.n) = true := by decide +kernel

/-- R189. -/
theorem test_ldm :
    ran [0x01#8, 0x10#8, 0x6D#8, 0x73#8] (poke (setER start 7 0xFFEFF8) 0xFFEFFB [3#8, 0#8, 0#8, 0#8, 2#8]) (fun t =>
      getER t 3 == 3#32 && getER t 2 == 2#32 && getER t 7 == 0xFFF000#32 && t.ccr == start.ccr) = true := by decide +kernel

/-- R190. -/
theorem test_stm :
    ran [0x01#8, 0x10#8, 0x6D#8, 0xF2#8] (setER (setER (setER start 2 2) 3 3) 7 0xFFF000) (fun t =>
      holds t 0xFFEFF8 [0#8, 0#8, 0#8, 3#8, 0#8, 0#8, 0#8, 2#8] && getER t 7 == 0xFFEFF8#32) = true := by decide +kernel

/-- R203. -/
theorem test_add_overflow :
    ran [0x88#8, 0x01#8] (setER start 0 0x7F) (fun t =>
      getER t 0 == 0x80#32 && t.ccr.h && nzvc t == [true, false, true, false]) = true := by decide +kernel

/-- R212: Z stays 1 over a zero result, and stays 0. -/
theorem test_addx_zero :
    ran [0x98#8, 0x00#8] (withCcr (setER start 0 0xFF) 0x05) (fun t =>
      getER t 0 == 0#32 && t.ccr.h && nzvc t == [false, true, false, true]) = true ∧
    ran [0x98#8, 0x00#8] (withCcr (setER start 0 0xFF) 0x01) (fun t => !t.ccr.z) = true := by
  constructor <;> decide +kernel

/-- R222. -/
theorem test_subx_borrow :
    ran [0xB8#8, 0x00#8] (withCcr start 0x05) (fun t =>
      getER t 0 == 0xFF#32 && t.ccr.h && nzvc t == [true, false, false, true]) = true := by decide +kernel

/-- R229. -/
theorem test_cmp_long :
    ran [0x1F#8, 0x81#8] (setER start 0 0xFFFFFFFF) (fun t =>
      getER t 1 == 0#32 && t.ccr.h && nzvc t == [false, false, false, true]) = true := by decide +kernel

/-- R232. -/
theorem test_inc_overflow :
    ran [0x0B#8, 0xD0#8] (setER start 0 0x7FFF) (fun t =>
      getER t 0 == 0x8001#32 && t.ccr.n && !t.ccr.z && t.ccr.v) = true := by decide +kernel

/-- R245. -/
theorem test_neg_lowest :
    ran [0x17#8, 0xB0#8] (setER start 0 0x80000000) (fun t =>
      getER t 0 == 0x80000000#32 && !t.ccr.h && nzvc t == [true, false, true, true]) = true := by decide +kernel

/-- R234. -/
theorem test_daa :
    ran [0x0F#8, 0x08#8] (withCcr (setER start 0 0x41) 0x20) (fun t =>
      getER t 0 == 0x47#32 && !t.ccr.n && !t.ccr.z && !t.ccr.c) = true := by decide +kernel

/-- R235. -/
theorem test_das :
    ran [0x1F#8, 0x08#8] (withCcr (setER start 0 0x1F) 0x20) (fun t =>
      getER t 0 == 0x19#32 && !t.ccr.n && !t.ccr.z && !t.ccr.c) = true := by decide +kernel

/-- R264. -/
theorem test_mulxs :
    ran [0x01#8, 0xC0#8, 0x52#8, 0x01#8] (setER (setER start 0 0x8000) 1 2) (fun t =>
      getER t 1 == 0xFFFF0000#32 && t.ccr.n && !t.ccr.z) = true := by decide +kernel

/-- R269. -/
theorem test_divxs :
    ran [0x01#8, 0xD0#8, 0x53#8, 0x01#8] (setER (setER start 0 0xFFFD) 1 100) (fun t =>
      getER t 1 == 0x0001FFDF#32 && t.ccr.n && !t.ccr.z) = true := by decide +kernel

/-- R273. -/
theorem test_exts :
    ran [0x17#8, 0xF1#8] (setER start 1 0xFFFF7FFF) (fun t => getER t 1 == 0x7FFF#32 && !t.ccr.n && !t.ccr.z) = true := by
  decide +kernel

/-- R278. -/
theorem test_tas :
    ran [0x01#8, 0xE0#8, 0x7B#8, 0x0C#8] (setER start 0 0x2000) (fun t =>
      holds t 0x2000 [0x80#8] && !t.ccr.n && t.ccr.z && !t.ccr.v) = true := by decide +kernel

/-- R279. -/
theorem test_mac :
    ran [0x01#8, 0x60#8, 0x6D#8, 0x12#8]
      (poke (poke (setER (setER start 1 0x2000) 2 0x3000) 0x2001 [0x03#8]) 0x3000 [0xFF#8, 0xFE#8]) (fun t =>
        t.mach == 0x3FF#10 && t.macl == 0xFFFFFFFA#32 && t.nMult && !t.zMult && !t.vMult && getER t 1 == 0x2002#32 &&
          getER t 2 == 0x3002#32) = true := by decide +kernel

/-- R284. -/
theorem test_stmac :
    ran [0x02#8, 0x23#8] { start with mach := 0x3FF#10, nMult := true } (fun t =>
      getER t 3 == 0xFFFFFFFF#32 && t.ccr.n && !t.ccr.z && !t.ccr.v) = true := by decide +kernel

/-- R312. -/
theorem test_or :
    ran [0x01#8, 0xF0#8, 0x64#8, 0x01#8] (setER (setER start 0 0xF0000000) 1 0xF) (fun t =>
      getER t 1 == 0xF000000F#32 && t.ccr.n && !t.ccr.z && !t.ccr.v) = true := by decide +kernel

/-- R612. -/
theorem test_shar :
    ran [0x11#8, 0xB0#8] (setER start 0 0x80000003) (fun t =>
      getER t 0 == 0xC0000001#32 && nzvc t == [true, false, false, true]) = true := by decide +kernel

/-- R640. -/
theorem test_rotxl :
    ran [0x12#8, 0x10#8] (withCcr (setER start 0 0x4000) 0x01) (fun t =>
      getER t 0 == 0x8001#32 && nzvc t == [true, false, false, false]) = true := by decide +kernel

/-- R724. -/
theorem test_bclr_memory :
    ran [0x6A#8, 0x38#8, 0x00#8, 0x20#8, 0x00#8, 0x00#8, 0x62#8, 0x90#8]
      (poke (setER start 1 0xF9) 0x200000 [0x57#8]) (fun t => holds t 0x200000 [0x55#8] && t.ccr == start.ccr) = true := by
  decide +kernel

/-- R760. -/
theorem test_bnot_register :
    ran [0x61#8, 0x9A#8] (setER (setER start 1 0xFA) 2 0xFF) (fun t => getER t 2 == 0xFB#32 && t.ccr == start.ccr) = true := by
  decide +kernel

/-- R914, taken and not taken. -/
theorem test_bcs :
    ran [0x45#8, 0xFE#8] (withCcr start 0x01) (fun t => t.pc == 0x1000#24) = true ∧
    ran [0x45#8, 0xFE#8] (withCcr start 0x00) (fun t => t.pc == 0x1002#24) = true := by constructor <;> decide +kernel

/-- R939, normal mode. -/
theorem test_bsr_normal :
    ran [0x55#8, 0x10#8] { setER start 7 0xFF00 with cfg := { start.cfg with mode := .normal } } (fun t =>
      getER t 7 == 0xFEFE#32 && holds t 0xFEFE [0x10#8, 0x02#8] && t.pc == 0x1012#24) = true := by decide +kernel

/-- R944. -/
theorem test_rts :
    ran [0x54#8, 0x70#8] (poke (setER start 7 0xFFFEFC) 0xFFFEFC [0x5A#8, 0x00#8, 0x10#8, 0x02#8]) (fun t =>
      t.pc == 0x1002#24 && getER t 7 == 0xFFFF00#32) = true := by decide +kernel

/-- R804. -/
theorem test_trapa :
    ran [0x57#8, 0x20#8] (withCcr (poke (setER start 7 0xFFFF00) 0x28 [0x00#8, 0x00#8, 0x30#8, 0x00#8]) 0x05) (fun t =>
      getER t 7 == 0xFFFEFC#32 && holds t 0xFFFEFC [0x05#8, 0x00#8, 0x10#8, 0x02#8] && t.ccr.toByte == 0x85#8 &&
        t.pc == 0x3000#24) = true := by decide +kernel

/-- R805. -/
theorem test_rte :
    ran [0x56#8, 0x70#8]
      { poke (setER start 7 0xFFFEFA) 0xFFFEFA [0x87#8, 0xFF#8, 0x05#8, 0x00#8, 0x10#8, 0x02#8] with
        cfg := { start.cfg with intm := .mode2 } } (fun t =>
      t.exr == ⟨true, 7⟩ && t.ccr.toByte == 0x05#8 && t.pc == 0x1002#24 && getER t 7 == 0xFFFF00#32 && t.noTrace) = true := by
  decide +kernel

/-- R822. -/
theorem test_ldc_exr :
    ran [0x01#8, 0x41#8, 0x78#8, 0x30#8, 0x6B#8, 0x20#8, 0x00#8, 0x00#8, 0x01#8, 0x00#8]
      (poke (setER start 3 0xFF8000) 0xFF8100 [0x05#8]) (fun t => t.exr == ⟨false, 5⟩ && t.inhibit) = true := by
  decide +kernel

/-- R451. -/
theorem test_eepmov_byte :
    ran [0x7B#8, 0x5C#8, 0x59#8, 0x8F#8]
      (poke (setER (setER (setER start 4 3) 5 0x3000) 6 0x2000) 0x3000 [0x11#8, 0x22#8, 0x33#8]) (fun t =>
        holds t 0x2000 [0x11#8, 0x22#8, 0x33#8] && getER t 4 == 0#32 && getER t 5 == 0x3003#32 && getER t 6 == 0x2003#32 &&
          t.pc == 0x1004#24) = true := by decide +kernel

/-- R452, the second byte copied being the one just written. -/
theorem test_eepmov_word_overlap :
    ran [0x7B#8, 0xD4#8, 0x59#8, 0x8F#8]
      (poke (setER (setER (setER start 4 2) 5 0x3000) 6 0x3001) 0x3000 [0xAA#8]) (fun t =>
        holds t 0x3001 [0xAA#8, 0xAA#8] && getER t 4 == 0#32 && getER t 5 == 0x3002#32 && getER t 6 == 0x3003#32) = true := by
  decide +kernel

/-- An NMI that comes up one byte later, at granularity `bus_cycle` where it is met inside EEPMOV.W, and at `instruction`. -/
def withLateNmi (g : Granularity) (s : State) : State :=
  { s with
    cfg := { s.cfg with granularity := g }
    env := { s.env with offers := [none, some ⟨true, 7, 0, 7⟩] } }

/-- R452, D13. -/
theorem test_eepmov_word_interrupted :
    let s := setER (setER (setER start 4 5) 5 0x3000) 6 0x2000;
      ran [0x7B#8, 0xD4#8, 0x59#8, 0x8F#8] (withLateNmi .busCycle s) (fun t =>
        getER t 4 == 3#32 && getER t 6 == 0x2002#32 && t.pc == 0x1004#24 && t.env.offers == [some ⟨true, 7, 0, 7⟩]) = true ∧
      ran [0x7B#8, 0xD4#8, 0x59#8, 0x8F#8] (withLateNmi .instruction s) (fun t =>
        getER t 4 == 0#32 && getER t 6 == 0x2005#32) = true := by constructor <;> decide +kernel

/-- A refusal with this reason. -/
def refusedAs (r : Result) (why : Refusal) : Bool :=
  match r with
  | .refused x => x == why
  | _ => false

/-- R85: MOV.B R0L,@ER1 into a byte of `next` or of `next + 2`, the value there being the same; and beside them. -/
theorem test_store_into_prefetch :
    [0x1002#32, 0x1003#32, 0x1005#32].all (fun a =>
      refusedAs (step (placeWords [0x68#8, 0x98#8] 0 (setER start 1 a))) .storeIntoPrefetch) = true ∧
    [0x1001#32, 0x1006#32].all (fun a => ran [0x68#8, 0x98#8] (setER start 1 a) fun _ => true) = true := by
  constructor <;> decide +kernel

/-- R520: reset is accepted in hardware standby with STBY low. -/
theorem test_reset_in_hardware_standby :
    (match step { start with
        procState := .hardwareStandby, env := { start.env with resetAsserted := true, standbyAsserted := true } } with
      | .next t => t.procState == .reset
      | _ => false) = true := by decide +kernel

/-- `start` with RES low from after `n` write cycles on, at granularity `bus_cycle`. -/
def resetAfter (n : Nat) : State :=
  { start with
    cfg := { start.cfg with granularity := .busCycle }
    env := { start.env with resetAsserted := true, arrival := .afterWrites n } }

/-- R520, D13: MOV.L ER0,@ER1 abandoned after the first of its two words. -/
theorem test_reset_inside_store :
    ran [0x01#8, 0x00#8, 0x69#8, 0x90#8] (setER (setER (resetAfter 1) 0 0x11223344) 1 0x2000) (fun t =>
      t.procState == .reset && holds t 0x2000 [0x11#8, 0x22#8, 0x00#8, 0x00#8]) = true := by decide +kernel

/-- R520: MOV.B R0L,@ER1 into the word at `next`, reset before the write and after it. -/
theorem test_reset_before_prefetch_store :
    ran [0x68#8, 0x98#8] (setER (setER (resetAfter 0) 0 5) 1 0x1003) (fun t =>
      t.procState == .reset && holds t 0x1003 [0x00#8]) = true ∧
    refusedAs (step (placeWords [0x68#8, 0x98#8] 0 (setER (setER (resetAfter 1) 0 5) 1 0x1003))) .storeIntoPrefetch = true := by
  constructor <;> decide +kernel

/-- `s` at granularity `g`, the environment doing nothing at the boundary and then these acts. -/
def withActs (g : Granularity) (acts : List WriteCycle) (s : State) : State :=
  { s with cfg := { s.cfg with granularity := g }, env := { s.env with acts := [] :: acts } }

/-- R81, D13: MAC reads one word twice, and the environment writes it in between; at granularity `instruction` it does not. -/
theorem test_mac_environment :
    let s := poke (setER (setER start 1 0x2000) 2 0x2000) 0x2001 [2#8];
    let acts : List WriteCycle := [[], [(0x2001, 3#8)]];
      ran [0x01#8, 0x60#8, 0x6D#8, 0x12#8] (withActs .busCycle acts s) (fun t =>
        t.macl == 6#32 && holds t 0x2001 [3#8] && t.env.acts == []) = true ∧
      ran [0x01#8, 0x60#8, 0x6D#8, 0x12#8] (withActs .instruction acts s) (fun t =>
        t.macl == 4#32 && holds t 0x2001 [2#8] && t.env.acts == acts) = true := by constructor <;> decide +kernel

/-- R70, R81: EEPMOV.B, whose second byte the environment writes after the first one has been read. -/
theorem test_eepmov_environment :
    ran [0x7B#8, 0x5C#8, 0x59#8, 0x8F#8]
      (withActs .busCycle [[], [(0x3001, 0x77#8)]] (poke (setER (setER (setER start 4 2) 5 0x3000) 6 0x2000) 0x3000 [0x11#8, 0x22#8]))
      (fun t => holds t 0x2000 [0x11#8, 0x77#8]) = true := by decide +kernel

/-- `start` with MOV.L #1,ER0 at PC, the environment writing this byte at the boundary. -/
def withCodeAct (a : Long) (v : Byte) : State :=
  let s := placeWords [0x7A#8, 0x00#8, 0x00#8, 0x00#8, 0x00#8, 0x01#8] 0 start
  { s with env := { s.env with acts := [[(a, v)]] } }

/-- R85: the environment writes to code: into a word that may have been prefetched, and further ahead. -/
theorem test_environment_writes_code :
    [0x1000#32, 0x1003#32].all (fun a => refusedAs (step (withCodeAct a 0#8)) .storeIntoPrefetch) = true ∧
    (match step (withCodeAct 0x1005 2#8) with | .next t => getER t 0 == 2#32 | _ => false) = true := by
  constructor <;> decide +kernel

/-- A table word placed where `step` fetches is what the next step runs, from reset. -/
theorem test_fetch_word :
    (match step (State.reset.withFetchWord 16 0xF812) with | .next t => getReg8 t (.l 0) == 0x12#8 | _ => false) = true := by
  decide +kernel

/-! ### Witnesses: the hypotheses of the statements can be met -/

/-- The outcome is a next state. -/
def isNext : Result → Bool
  | .next _ => true
  | _ => false

theorem next_of {r : Result} (h : isNext r = true) : ∃ t, r = .next t := by
  cases r with
  | next t => exact ⟨t, rfl⟩
  | fault x => cases x
  | refused x => cases h

/-- What was begun leads to a state with `p`. -/
theorem begun_of {o : Host.Outcome Deed Fault Refusal} {p : Deed → Bool} {b : Bool}
    (h : (match o with | .next d => p d == b | _ => false) = true) : ∃ d, o = .next d ∧ p d = b := by
  cases o with
  | next d => exact ⟨d, rfl, by simpa using h⟩
  | fault x => cases x
  | refused x => cases h

theorem witness_registerLists :
    [1, 3, 5, 7].all (ldmListed 2) = true ∧ [2, 6].all (ldmListed 3) = true ∧ [3, 7].all (ldmListed 4) = true ∧
    [0, 2, 4, 6].all (stmListed 2) = true ∧ [0, 4].all (stmListed 3) = true ∧ [0, 4].all (stmListed 4) = true ∧
    [0, 1, 4, 5].all tasRegister = true := by decide

theorem witness_AbsentEncodingsRefused :
    ({ start with cfg := { start.cfg with cpu := .h8s2000 } } : State).cfg.cpu = .h8s2000 ∧
    ldmListed 2 6 = false ∧ ldmListed 3 3 = false ∧ ldmListed 4 6 = false ∧ stmListed 2 1 = false ∧
    stmListed 3 6 = false ∧ stmListed 4 2 = false ∧ tasRegister 2 = false ∧ tasRegister 7 = false := by decide

theorem witness_mac : start.cfg.cpu = .h8s2600 ∧ ({ start with env := { start.env with macs := true } } : State).cfg.cpu = .h8s2600 := by
  decide

/-- The two clauses of DAA and of DAS, at the ends of rows and just outside them. -/
theorem witness_DecimalAdjustFollowsTables :
    (∃ row ∈ daaTable, row.Covers 0x99#8 (Ccr.ofByte 0x00)) ∧ (∃ row ∈ daaTable, row.Covers 0x33#8 (Ccr.ofByte 0x21)) ∧
    (∀ row ∈ daaTable, ¬ row.Covers 0x04#8 (Ccr.ofByte 0x20)) ∧ (∃ row ∈ dasTable, row.Covers 0x66#8 (Ccr.ofByte 0x21)) ∧
    (∀ row ∈ dasTable, ¬ row.Covers 0x65#8 (Ccr.ofByte 0x21)) := by
  unfold DecimalRow.Covers; decide

/-- The two clauses of DIVXU.B and of DIVXS.B: quotients 255 and 256, -128 and 128, and a divisor 0. -/
theorem witness_DivideSetsRemainderAndQuotient :
    ((0x01#8).toNat ≠ 0 ∧ (0x00FF#16).toNat / (0x01#8).toNat < 2 ^ 8) ∧ ¬ (0x0100#16).toNat / (0x01#8).toNat < 2 ^ 8 ∧
    ¬ (0x00#8).toNat ≠ 0 ∧
    ((0x01#8).toInt ≠ 0 ∧ -2 ^ 7 ≤ (0xFF80#16).toInt.tdiv (0x01#8).toInt ∧
      (0xFF80#16).toInt.tdiv (0x01#8).toInt < 2 ^ 7) ∧
    ¬ (0x0080#16).toInt.tdiv (0x01#8).toInt < 2 ^ 7 := by decide

theorem start_executes : (atBoundary start).Executes := ⟨rfl, rfl, rfl, rfl, rfl, rfl⟩

theorem start_inv : start.Inv := ⟨by decide, by decide, by decide⟩

theorem witness_EveryStepKeepsInvariant : State.reset.Inv ∧ ∃ t, step State.reset = .next t :=
  ⟨⟨by decide, by decide, by decide⟩, next_of (by decide +kernel)⟩

theorem witness_ParametersAndInputsNeverChange : ∃ t, step State.reset = .next t := next_of (by decide +kernel)

theorem witness_DecodeReadsEncodedInstruction :
    (Instr.movLD32ERsERd 7 0xFFFFFFFF#32 7).wellFormed = true ∧ (Instr.ldmL4 7).wellFormed = true := by decide

theorem witness_DecodedInstructionsAreWellFormed : decode [0x01#8, 0x30#8, 0x6D#8, 0x77#8] = some (.ldmL4 7) := by
  decide +kernel

/-- NOP, which stores nothing; MOV.B R0L,@ER1 with ER1 just past the two words; an instruction that refuses. -/
theorem witness_StepRunsDecodedInstruction :
    (let b := atBoundary start;
      b.Executes ∧ b.stale = false ∧ decode (instrBytes b) = some .nop ∧
        exec .nop (beginInstr b) = .next (advance 2 (beginInstr b)) ∧
        ¬ StoresInto (prefetchWindow (Instr.nop).size b) (advance 2 (beginInstr b)).writes) ∧
    (let s := atBoundary (placeWords [0x68#8, 0x98#8] 0 (setER start 1 0x1006));
      let t := moveStore 2 (.b (.l 0)) (.ind 1) (beginInstr s);
      s.Executes ∧ s.stale = false ∧ decode (instrBytes s) = some (.movBRsAtERd (.l 0) 1) ∧
        exec (.movBRsAtERd (.l 0) 1) (beginInstr s) = .next t ∧ storesInto (prefetchWindow 2 s) t = false) ∧
    (let s := atBoundary { placeWords [0x01#8, 0xA0#8] 0 start with cfg := { start.cfg with cpu := .h8s2000 } };
      decode (instrBytes s) = some .clrmac ∧ exec .clrmac (beginInstr s) = .refused .macGroupOnH8S2000) :=
  ⟨⟨start_executes, by decide +kernel, by decide +kernel, rfl, by rintro ⟨c, h, -⟩; cases h⟩,
    ⟨⟨rfl, rfl, rfl, rfl, rfl, rfl⟩, by decide +kernel, by decide +kernel, rfl, by decide +kernel⟩, by decide +kernel, rfl⟩

/-- A word at PC out of date; bytes that are no instruction; MOV.B R0L,@ER1 into the last byte of the word at `next + 2`. -/
theorem witness_UndefinedBytesAndPrefetchStoresRefused :
    ((atBoundary (withCodeAct 0x1000 0#8)).Executes ∧ (atBoundary (withCodeAct 0x1000 0#8)).stale = true) ∧
    (let s := atBoundary (placeWords [0x00#8, 0x01#8] 0 start);
      s.Executes ∧ s.stale = false ∧ decode (instrBytes s) = none) ∧
    (let s := atBoundary (placeWords [0x68#8, 0x98#8] 0 (setER start 1 0x1005));
      let t := moveStore 2 (.b (.l 0)) (.ind 1) (beginInstr s);
      s.Executes ∧ s.stale = false ∧ decode (instrBytes s) = some (.movBRsAtERd (.l 0) 1) ∧
        exec (.movBRsAtERd (.l 0) 1) (beginInstr s) = .next t ∧ storesInto (prefetchWindow 2 s) t = true) :=
  ⟨⟨⟨rfl, rfl, rfl, rfl, rfl, rfl⟩, by decide +kernel⟩,
    ⟨⟨rfl, rfl, rfl, rfl, rfl, rfl⟩, by decide +kernel, by decide +kernel⟩,
    ⟨rfl, rfl, rfl, rfl, rfl, rfl⟩, by decide +kernel, by decide +kernel, rfl, by decide +kernel⟩

/-- Both modes; PC at the last word of its range. -/
theorem witness_FetchReadsConsecutiveBytes :
    (({ start with pc := 0xFFFFFE#24 } : State).Inv ∧ start.cfg.addrMask.getLsbD 0 = true) ∧
    ({ start with pc := 0x00FFFE#24, cfg := { start.cfg with mode := .normal } } : State).Inv :=
  ⟨⟨⟨by decide, by decide, by decide⟩, by decide⟩, ⟨by decide, by decide, by decide⟩⟩

/-- `s` at a boundary at which `req` is offered. -/
def offering (s : State) (req : Request) : State :=
  { s with inhibit := false, env := { s.env with offers := [some req] } }

/-- The hypotheses of the statement on interrupts that all clauses share. -/
def undisturbedBoundary (s : State) : Bool :=
  s.procState == .programExecution && !s.env.standbyAsserted && !s.env.resetAsserted && !s.env.busRequest && !traceDue s

/-- `start` in interrupt control mode 2, at mask level `k`. -/
def inMode2 (k : BitVec 3) : State := { start with cfg := { start.cfg with intm := .mode2 }, exr := ⟨false, k⟩ }

/-- NMI with I = 1; a maskable request with I = 0 in mode 0; one level above the mask in mode 2, with I = 1. -/
theorem witness_interrupt_accepted :
    (undisturbedBoundary (offering start ⟨true, 7, 0, 7⟩) = true ∧ start.ccr.i = true) ∧
    (undisturbedBoundary (offering (withCcr start 0) ⟨false, 16, 1, 1⟩) = true ∧
      Masks (offering (withCcr start 0) ⟨false, 16, 1, 1⟩) ⟨false, 16, 1, 1⟩ false) ∧
    (undisturbedBoundary (offering (inMode2 6) ⟨false, 16, 7, 7⟩) = true ∧
      Masks (offering (inMode2 6) ⟨false, 16, 7, 7⟩) ⟨false, 16, 7, 7⟩ false) :=
  ⟨by decide, ⟨by decide, .inl ⟨rfl, rfl, rfl⟩⟩, by decide, .inr (.inl ⟨rfl, rfl, rfl⟩)⟩

/-- The inhibit window; I = 1 in mode 0; the mask's own level in mode 2. -/
theorem witness_interrupt_masked :
    (undisturbedBoundary { offering start ⟨true, 7, 0, 7⟩ with inhibit := true } = true) ∧
    (undisturbedBoundary (offering start ⟨false, 16, 7, 7⟩) = true ∧
      Masks (offering start ⟨false, 16, 7, 7⟩) ⟨false, 16, 7, 7⟩ true) ∧
    (undisturbedBoundary (offering (inMode2 7) ⟨false, 16, 7, 7⟩) = true ∧
      Masks (offering (inMode2 7) ⟨false, 16, 7, 7⟩) ⟨false, 16, 7, 7⟩ true) :=
  ⟨by decide, ⟨by decide, .inl ⟨rfl, rfl, rfl⟩⟩, by decide, .inr (.inl ⟨rfl, rfl, rfl⟩)⟩

/-- A product with its own function, and mode 3: the function masks a request or it does not. -/
theorem witness_masked_by_product (req : Request) (cfg : Config) (h : cfg.maskRule = .product ∨ cfg.intm = .mode3) :
    Masks { start with cfg := cfg } req true ∨ Masks { start with cfg := cfg } req false := by
  have h' : cfg.maskRule = .product ∨ cfg.intm = .mode1 ∨ cfg.intm = .mode3 := h.imp_right .inr
  cases hb : Config.maskedByProduct cfg.intm start.ccr.i start.ccr.ui start.exr.level req
  · exact .inr (.inr (.inr ⟨h', hb⟩))
  · exact .inl (.inr (.inr ⟨h', hb⟩))

theorem witness_TraceIsTakenAfterTracedInstruction :
    let s : State := { inMode2 7 with exr := ⟨true, 7⟩, noTrace := false }
    s.procState = .programExecution ∧ s.env.standbyAsserted = false ∧ s.env.resetAsserted = false ∧
      s.env.busRequest = false ∧ s.cfg.intm = .mode2 ∧ s.exr.t = true ∧ s.noTrace = false := by decide

/-- Reset at the boundary, after no and after one write cycle, a store into the prefetched words being performed by then or not;
an instruction that refuses; one that is begun; reset released in the reset state. -/
theorem witness_ResetLoadsVectorAndMasks :
    ({ start with env := { start.env with resetAsserted := true } } : State).SeenAtBoundary ∧
    (∀ n ∈ [0, 1], (resetAfter n).env.resetAsserted = true ∧ (resetAfter n).cfg.granularity = .busCycle ∧
      (resetAfter n).env.arrival = .afterWrites n ∧ (resetAfter n).procState ≠ .reset) ∧
    (∀ n ∈ [0, 1], ∃ d, undertake (atBoundary (placeWords [0x68#8, 0x98#8] 0 (setER (resetAfter n) 1 0x1003))) = .next d ∧
      storesInto d.window (abandoned n (resetAfter n) d.ends) = (n == 1)) ∧
    (∃ r, undertake (atBoundary (placeWords [0x00#8, 0x01#8] 0 (resetAfter 1))) = .refused r) ∧
    (let b := atBoundary (resetAfter 0);
      b.procState = .programExecution ∧ b.env.busRequest = false ∧ traceDue b = false ∧ acceptedRequest b = none ∧
        b.stale = false ∧ decode (instrBytes b) = some .nop ∧ ∃ t, exec .nop (beginInstr b) = .next t) ∧
    (start.env.resetAsserted = false ∧ start.env.standbyAsserted = false ∧
      ({ start with procState := .reset } : State).procState = .reset) :=
  ⟨.inl rfl, by decide, by
      intro n hn
      rcases List.mem_cons.mp hn with rfl | hn
      · exact begun_of (by decide +kernel)
      · obtain rfl := List.mem_singleton.mp hn
        exact begun_of (by decide +kernel),
    ⟨.undefinedEncoding, by rfl⟩, ⟨rfl, rfl, rfl, rfl, rfl, by decide +kernel, _, rfl⟩, rfl, rfl, rfl⟩

/-- `start` with STBY low from after one write cycle on, at granularity `bus_cycle`. -/
def standbyAfter : State :=
  { start with
    cfg := { start.cfg with granularity := .busCycle }
    env := { start.env with standbyAsserted := true, arrival := .afterWrites 1 } }

/-- Each clause: STBY low, at the boundary and inside; hardware standby, bus released, sleep with nothing accepted, sleep
with NMI accepted. -/
theorem witness_WaitingStatesWaitForTheirEvent :
    (({ start with env := { start.env with standbyAsserted := true } } : State).SeenAtBoundary ∧
      start.procState ≠ .hardwareStandby) ∧
    (standbyAfter.env.resetAsserted = false ∧ standbyAfter.procState ≠ .reset ∧
      ∃ d, undertake (atBoundary standbyAfter) = .next d ∧ storesInto d.window (abandoned 1 standbyAfter d.ends) = false) ∧
    (start.env.standbyAsserted = false ∧ start.env.resetAsserted = false ∧ traceDue start = false) ∧
    ({ start.env with busRequest := true } : Env).busRequest = true ∧
    acceptedRequest { start with procState := .sleep } = none ∧
    acceptedRequest { offering start ⟨true, 7, 0, 7⟩ with procState := .softwareStandby } = some ⟨true, 7, 0, 7⟩ :=
  ⟨⟨.inl rfl, by decide⟩, ⟨rfl, by decide, begun_of (by decide +kernel)⟩, by decide, by decide, by decide, by decide⟩

/-- An instruction that opens the window, and one that does not. -/
theorem witness_OnlyControlLoadsOpenInhibitWindow :
    (atBoundary (placeWords [0x04#8, 0x80#8] 0 start)).Executes ∧
    decode (instrBytes (atBoundary (placeWords [0x04#8, 0x80#8] 0 start))) = some (.orcImm8CCR 0x80#8) ∧
    opensInhibit (.orcImm8CCR 0x80#8) = true ∧ (∃ t, step (placeWords [0x04#8, 0x80#8] 0 start) = .next t) ∧
    (atBoundary start).Executes ∧ decode (instrBytes (atBoundary start)) = some .nop ∧ opensInhibit .nop = false ∧
    ∃ t, step start = .next t :=
  ⟨⟨rfl, rfl, rfl, rfl, rfl, rfl⟩, by decide +kernel, by decide, next_of (by decide +kernel), start_executes,
    by decide +kernel, by decide, next_of (by decide +kernel)⟩

theorem witness_SpecialRegistersChangeByTheirInstructionsOnly :
    (∃ t, exec .nop start = .next t) ∧ writesMac .nop = false ∧ writesExr .nop = false ∧ Instr.nop ≠ .sleep ∧ Instr.nop ≠ .rte :=
  ⟨⟨_, rfl⟩, by decide, by decide, by decide, by decide⟩

theorem witness_WellFormedInstructionsComplete :
    (Instr.clrmac.wellFormed = true ∧ start.cfg.cpu = .h8s2600) ∧ (Instr.nop.wellFormed = true ∧ inMacGroup .nop = false) := by
  decide

/-- With and without EXR in the frame; the frame at the bottom of memory goes round; no act at granularity `bus_cycle`. -/
theorem witness_TrapaThenRteReturns :
    (setER (inMode2 7) 7 0x4000).Undisturbed ∧ (setER start 7 2).Undisturbed ∧
    ({ State.reset with cfg := { State.reset.cfg with granularity := .busCycle } } : State).Undisturbed ∧
    (frameKeys (setER (inMode2 7) 7 0x4000)).Nodup ∧ (frameKeys (setER start 7 2)).Nodup ∧
    (∃ t, exec (.trapa 3) (setER (inMode2 7) 7 0x4000) = .next t) ∧ ∃ t, exec (.trapa 0) (setER start 7 2) = .next t :=
  ⟨.inl rfl, .inl rfl, .inr rfl, by decide +kernel, by decide +kernel, ⟨_, rfl⟩, ⟨_, rfl⟩⟩

theorem witness_CallThenRtsReturns :
    (setER start 7 0x4000).Undisturbed ∧ (longKeys start.cfg (getER (setER start 7 0x4000) 7 - 4)).Nodup ∧
    ∃ t, exec (.jsrAtERn 7) (setER start 7 0x4000) = .next t := ⟨.inl rfl, by decide +kernel, ⟨_, rfl⟩⟩

/-- An odd address, and the last longword of the address space; the environment with and without an act to come. -/
theorem witness_MemoryReadsWhatWasWritten :
    ((longKeys start.cfg 0x2001).Nodup ∧ (longKeys start.cfg 0xFFFFFFFE).Nodup ∧ start.mem.wf = true ∧
      start.cfg.mode = .advanced ∧ ({ start.cfg with mode := .normal } : Config).mode = .normal) ∧ start.Undisturbed ∧
    (let s := withActs .busCycle [[(0x2001, 3#8)]] start; s.cfg.granularity = .busCycle ∧ ∃ act acts, s.env.acts = act :: acts) :=
  ⟨by decide +kernel, .inl rfl, rfl, _, _, rfl⟩

/-- EEPMOV.W's clauses: an NMI at the first examination, one at the second, none, and no byte to move. -/
theorem witness_EepmovWordStopsAtAcceptedInterrupt :
    acceptedAt 1 (offering (setER start 4 2) ⟨true, 7, 0, 7⟩) = true ∧
    (let s := { withLateNmi .busCycle (setER start 4 2) with inhibit := false };
      acceptedAt 1 s = false ∧ acceptedAt 2 s = true ∧ offersAt 2 s = [some ⟨true, 7, 0, 7⟩]) ∧
    acceptedAt 1 start = false ∧ (getReg16 start (.r 4)).toNat = 0 := by decide +kernel

end

end Sys2Proof.Machine.Tests
end

section
/-! SUPPORT. What every instruction keeps, said once for the whole of `exec`: the parameters, the inputs and, outside their own
instructions, the special registers; that offers and acts are taken from the front; that the changes of memory are noted. -/

namespace Sys2Proof.Machine

/-! ### Outcomes -/

/-- Where the outcome is a next state, it has `P`: `Completes` without the claim that there is one. -/
def OnNext (r : Result) (P : State → Prop) : Prop := ∀ t, r = .next t → P t

theorem OnNext.next {P : State → Prop} {u : State} (h : P u) : OnNext (.next u) P := by
  rintro t ⟨⟩
  exact h

/-- LDM, STM and TAS, which refuse some registers. -/
theorem OnNext.ite {P : State → Prop} {u : State} {c : Prop} [Decidable c] {r : Refusal} (h : P u) :
    OnNext (if c then .next u else .refused r) P := by
  split
  · exact .next h
  · rintro t ⟨⟩

/-- The MAC group, which the H8S/2000 refuses. -/
theorem OnNext.withMac {P : State → Prop} {s u : State} (h : P u) : OnNext (withMac u s) P := by
  unfold Sys2Proof.Machine.withMac
  split
  · exact .next h
  · rintro t ⟨⟩

/-! ### Parameters, inputs, offers, acts and memory -/

/-- From `s` to `t` no parameter and no input has changed, the offers left are a tail of those before, and memory has changed by
noted changes only, the environment's next acts among them. -/
structure KeepsInputs (s t : State) : Prop where
  cfg : t.cfg = s.cfg
  inputs : t.env.inputs = s.env.inputs
  offers : t.env.offers <:+ s.env.offers
  logged : Logged s t

theorem KeepsInputs.refl (s : State) : KeepsInputs s s := ⟨rfl, rfl, List.suffix_rfl, Logged.refl s⟩

theorem KeepsInputs.trans {s t u : State} (h : KeepsInputs s t) (h' : KeepsInputs t u) : KeepsInputs s u :=
  ⟨h'.cfg.trans h.cfg, h'.inputs.trans h.inputs, h'.offers.trans h.offers, h.logged.trans h'.logged⟩

theorem SameEnv.inputs {s t : State} (h : SameEnv s t) : t.env.inputs = s.env.inputs := by
  rw [h]
  rfl

theorem SameEnv.offers {s t : State} (h : SameEnv s t) : t.env.offers = s.env.offers := by rw [h]

theorem SameEnv.keepsInputs {s t : State} (h : SameEnv s t) (hc : t.cfg = s.cfg) (hl : Logged s t) : KeepsInputs s t :=
  ⟨hc, h.inputs, h.offers ▸ List.suffix_rfl, hl⟩

/-! ### What an instruction keeps -/

/-- What the instruction `i` keeps from `s` to `t`, whatever its operands: LDC, ANDC, ORC and XORC alone open the inhibit window,
and the special registers change by their own instructions only. -/
structure ExecKeeps (i : Instr) (s t : State) : Prop extends KeepsInputs s t where
  mac : writesMac i = false →
    t.mach = s.mach ∧ t.macl = s.macl ∧ t.nMult = s.nMult ∧ t.zMult = s.zMult ∧ t.vMult = s.vMult
  exr : writesExr i = false → t.exr = s.exr
  procState : i ≠ .sleep → t.procState = s.procState
  noTrace : i ≠ .rte → t.noTrace = s.noTrace
  inhibit : t.inhibit = (opensInhibit i || s.inhibit)
  stale : t.stale = s.stale
  pc : t.pc = pcValue t.cfg.mode t.pc

theorem Keeps.keepsInputs {s t : State} (h : Keeps s t) : KeepsInputs s t := h.env.keepsInputs h.cfg h.logged

/-- An instruction that keeps all that `Keeps` says. -/
theorem Keeps.ordinary {i : Instr} {s t : State} (h : Keeps s t) (hi : opensInhibit i = false) : ExecKeeps i s t where
  toKeepsInputs := h.keepsInputs
  mac := fun _ => h.mac
  exr := fun _ => h.exr
  procState := fun _ => h.procState
  noTrace := fun _ => h.noTrace
  inhibit := by rw [hi, h.inhibit, Bool.false_or]
  stale := h.stale
  pc := h.pc

/-- EXR replaced or kept, and the inhibit window opened. -/
theorem Keeps.opening {i : Instr} {s t : State} (h : Keeps s t) (hi : opensInhibit i = true) (x : Exr)
    (hx : writesExr i = false → x = s.exr) : ExecKeeps i s { t with exr := x, inhibit := true } where
  cfg := h.cfg
  inputs := h.keepsInputs.inputs
  offers := h.keepsInputs.offers
  logged := h.logged.congr ⟨rfl, rfl, rfl, rfl⟩
  mac := fun _ => h.mac
  exr := hx
  procState := fun _ => h.procState
  noTrace := fun _ => h.noTrace
  inhibit := by rw [hi, Bool.true_or]
  stale := h.stale
  pc := h.pc

theorem execKeeps_loadCcr {i : Instr} {s u : State} (hi : opensInhibit i = true) (len : BitVec 24) (v : Byte)
    (h : Spared s u) : ExecKeeps i s (loadCcr len v u) :=
  (keeps_setPc (nextPc u len) (h.setCcr (Ccr.ofByte v))).opening hi u.exr fun _ => h.busOnly.untouched.exr

theorem execKeeps_loadExr {i : Instr} {s u : State} (hi : opensInhibit i = true) (hx : writesExr i = true) (len : BitVec 24)
    (v : Byte) (h : Spared s u) : ExecKeeps i s (loadExr len v u) :=
  (keeps_setPc (nextPc u len) h).opening hi (Exr.ofByte v) fun hn => by rw [hx] at hn; cases hn

theorem execKeeps_loadControlCcr {i : Instr} (hi : opensInhibit i = true) (len : BitVec 24) (ea : Ea) (s : State) :
    ExecKeeps i s (loadControl loadCcr len ea s) :=
  execKeeps_loadCcr hi len _ ((Spared.refl s).update ea 2).beforeCycle

theorem execKeeps_loadControlExr {i : Instr} (hi : opensInhibit i = true) (hx : writesExr i = true) (len : BitVec 24) (ea : Ea)
    (s : State) : ExecKeeps i s (loadControl loadExr len ea s) :=
  execKeeps_loadExr hi hx len _ ((Spared.refl s).update ea 2).beforeCycle

/-- MACH, MACL and the multiplier flags replaced, at the end of an instruction that writes them. -/
theorem execKeeps_setMac {i : Instr} {s u : State} (hm : writesMac i = true) (hi : opensInhibit i = false) (len : BitVec 24)
    (mach : BitVec 10) (macl : Long) (nMult zMult vMult : Bool) (h : Spared s u) :
    ExecKeeps i s (advance len { u with mach := mach, macl := macl, nMult := nMult, zMult := zMult, vMult := vMult }) :=
  have k := keeps_setPc (nextPc u len) h
  { cfg := k.cfg
    inputs := k.keepsInputs.inputs
    offers := k.keepsInputs.offers
    logged := k.logged.congr ⟨rfl, rfl, rfl, rfl⟩
    mac := fun hn => by rw [hm] at hn; cases hn
    exr := fun _ => k.exr
    procState := fun _ => k.procState
    noTrace := fun _ => k.noTrace
    inhibit := by rw [hi, Bool.false_or]; exact k.inhibit
    stale := k.stale
    pc := k.pc }

theorem execKeeps_multiplyAccumulate (ern erm : RegNum) (s : State) :
    ExecKeeps (.macERnIncERmInc ern erm) s (multiplyAccumulate ern erm s) := by
  have h (v w : Long) := (((Spared.refl s).beforeCycle.setER ern v).beforeCycle).setER erm w
  unfold multiplyAccumulate
  split
  · exact execKeeps_setMac rfl rfl 4 _ _ _ _ _ (h _ _)
  · exact execKeeps_setMac rfl rfl 4 _ _ _ _ _ (h _ _)

theorem takeException_keepsInputs (ret : BitVec 24) (v : Nat) (x : Exr) (s : State) :
    KeepsInputs s (takeException ret v x s) := by
  obtain ⟨henv, -, -, -, -, hcfg⟩ := takeException_rest ret v x s
  exact henv.keepsInputs hcfg (takeException_logged ret v x s)

theorem execKeeps_trapa (imm : BitVec 2) (ret : BitVec 24) (v : Nat) (s : State) :
    ExecKeeps (.trapa imm) s (takeException ret v s.exr s) := by
  obtain ⟨-, hproc, hinhibit, htrace, hstale, -⟩ := takeException_rest ret v s.exr s
  have hs := takeException_spec ret v s.exr s
  exact {
    toKeepsInputs := takeException_keepsInputs ret v s.exr s
    mac := fun _ => hs.mac
    exr := fun _ => hs.exr
    procState := fun _ => hproc
    noTrace := fun _ => htrace
    inhibit := hinhibit
    stale := hstale
    pc := (pcValue_idem _ _).symm }

/-- The bus cycles in which a frame is read change only what bus cycles change. -/
theorem exrRead_busOnly (s : State) : BusOnly s (beforeCycles 2 (exrRead s)) := by
  unfold exrRead
  split
  · exact (busOnly_beforeCycles 1 s).trans (busOnly_beforeCycles 2 _)
  · exact busOnly_beforeCycles 2 s

theorem execKeeps_rte (s : State) : ExecKeeps .rte s (returnFromException s) := by
  have hr := (returnFromException_spec s).rest
  obtain ⟨hb, henv⟩ := exrRead_busOnly s
  have henv : SameEnv s (returnFromException s) := henv.trans (t := beforeCycles 2 (exrRead s)) (by unfold SameEnv; rw [hr.env])
  exact {
    toKeepsInputs := henv.keepsInputs (hr.cfg.trans hb.cfg) (returnFromException_logged s)
    mac := fun _ => ⟨hr.mach.trans hb.mach, hr.macl.trans hb.macl, hr.nMult.trans hb.nMult, hr.zMult.trans hb.zMult,
      hr.vMult.trans hb.vMult⟩
    exr := nofun
    procState := fun _ => hr.procState.trans hb.procState
    noTrace := fun h => absurd rfl h
    inhibit := hr.inhibit.trans hb.inhibit
    stale := hr.stale.trans hb.stale
    pc := by
      unfold returnFromException popFrame
      cases s.cfg.mode <;> exact (pcValue_idem _ _).symm }

theorem execKeeps_sleep (s : State) (p : ProcState) : ExecKeeps .sleep s (advance 2 { s with procState := p }) :=
  have k := keeps_advance 2 s
  { cfg := k.cfg
    inputs := k.keepsInputs.inputs
    offers := k.keepsInputs.offers
    logged := k.logged.congr ⟨rfl, rfl, rfl, rfl⟩
    mac := fun _ => k.mac
    exr := fun _ => k.exr
    procState := fun h => absurd rfl h
    noTrace := fun _ => k.noTrace
    inhibit := k.inhibit
    stale := k.stale
    pc := k.pc }

theorem execKeeps_eepmovW (n : Nat) (s : State) : ExecKeeps .eepmovW s (advance 4 (copyBytesW n s)) := by
  obtain ⟨j, -, -, -, hmoved, -⟩ := copyBytesW_spec n s
  obtain ⟨hb, -⟩ := movedBytes_rest j s
  have hr := hmoved.rest
  exact {
    cfg := hr.cfg.trans hb.cfg
    inputs := hmoved.inputs
    offers := copyBytesW_suffix n s
    logged := (copyBytesW_logged n s).congr ⟨rfl, rfl, rfl, rfl⟩
    mac := fun _ => ⟨hr.mach.trans hb.mach, hr.macl.trans hb.macl, hr.nMult.trans hb.nMult, hr.zMult.trans hb.zMult,
      hr.vMult.trans hb.vMult⟩
    exr := fun _ => hr.exr.trans hb.exr
    procState := fun _ => hr.procState.trans hb.procState
    noTrace := fun _ => hr.noTrace.trans hb.noTrace
    inhibit := hr.inhibit.trans hb.inhibit
    stale := hr.stale.trans hb.stale
    pc := (pcValue_idem _ _).symm }

/-- A general register, or a part of one, is written and CCR is kept. -/
theorem keeps_setER (len : BitVec 24) (n : RegNum) (v : Long) (s : State) : Keeps s (advance len (setER s n v)) :=
  keeps_put len (.l n) v s

theorem keeps_setReg16 (len : BitVec 24) (r : Reg16) (v : Half) (s : State) : Keeps s (advance len (setReg16 s r v)) :=
  keeps_put len (.w r) v s

theorem keeps_setReg8 (len : BitVec 24) (r : Reg8) (v : Byte) (s : State) : Keeps s (advance len (setReg8 s r v)) :=
  keeps_put len (.b r) v s

/-- Every instruction, one alternative of the case split for each shape of meaning. -/
theorem exec_onNext (i : Instr) (s : State) : OnNext (exec i s) (ExecKeeps i s) := by
  cases i with
  | movBRsRd | movWRsRd | movLERsERd | movBImm8Rd | movWImm16Rd | movLImm32ERd => exact .next ((keeps_moveInto ..).ordinary rfl)
  | movBAtERsRd | movBD16ERsRd | movBD32ERsRd | movBERsIncRd | movBAa8Rd | movBAa16Rd | movBAa32Rd | movWAtERsRd
  | movWD16ERsRd | movWD32ERsRd | movWERsIncRd | movWAa16Rd | movWAa32Rd | movLAtERsERd | movLD16ERsERd
  | movLD32ERsERd | movLERsIncERd | movLAa16ERd | movLAa32ERd | popWRn | popLERn | movfpeAa16Rd =>
    exact .next ((keeps_moveLoad ..).ordinary rfl)
  | movBRsAtERd | movBRsD16ERd | movBRsD32ERd | movBRsDecERd | movBRsAa8 | movBRsAa16 | movBRsAa32 | movWRsAtERd
  | movWRsD16ERd | movWRsD32ERd | movWRsDecERd | movWRsAa16 | movWRsAa32 | movLERsAtERd | movLERsD16ERd
  | movLERsD32ERd | movLERsDecERd | movLERsAa16 | movLERsAa32 | pushWRn | pushLERn | movtpeRsAa16 =>
    exact .next ((keeps_moveStore ..).ordinary rfl)
  | ldmL2 | ldmL3 | ldmL4 => exact .ite ((keeps_loadList ..).ordinary rfl)
  | stmL2 | stmL3 | stmL4 => exact .ite ((keeps_storeList ..).ordinary rfl)
  | addBImm8Rd | addBRsRd | addWImm16Rd | addWRsRd | addLImm32ERd | addLERsERd | addxImm8Rd | addxRsRd | subBRsRd
  | subWImm16Rd | subWRsRd | subLImm32ERd | subLERsERd | subxImm8Rd | subxRsRd | incBRd | incWBy1Rd | incWBy2Rd
  | incLBy1ERd | incLBy2ERd | decBRd | decWBy1Rd | decWBy2Rd | decLBy1ERd | decLBy2ERd | negBRd | negWRd | negLERd
  | extuWRd | extuLERd | extsWRd | extsLERd | andBImm8Rd | andBRsRd | andWImm16Rd | andWRsRd | andLImm32ERd
  | andLERsERd | orBImm8Rd | orBRsRd | orWImm16Rd | orWRsRd | orLImm32ERd | orLERsERd | xorBImm8Rd | xorBRsRd
  | xorWImm16Rd | xorWRsRd | xorLImm32ERd | xorLERsERd | notBRd | notWRd | notLERd | shalBRd | shalBBy2Rd | shalWRd
  | shalWBy2Rd | shalLERd | shalLBy2ERd | sharBRd | sharBBy2Rd | sharWRd | sharWBy2Rd | sharLERd | sharLBy2ERd
  | shllBRd | shllBBy2Rd | shllWRd | shllWBy2Rd | shllLERd | shllLBy2ERd | shlrBRd | shlrBBy2Rd | shlrWRd | shlrWBy2Rd
  | shlrLERd | shlrLBy2ERd | rotlBRd | rotlBBy2Rd | rotlWRd | rotlWBy2Rd | rotlLERd | rotlLBy2ERd | rotrBRd
  | rotrBBy2Rd | rotrWRd | rotrWBy2Rd | rotrLERd | rotrLBy2ERd | rotxlBRd | rotxlBBy2Rd | rotxlWRd | rotxlWBy2Rd
  | rotxlLERd | rotxlLBy2ERd | rotxrBRd | rotxrBBy2Rd | rotxrWRd | rotxrWBy2Rd | rotxrLERd | rotxrLBy2ERd =>
    exact .next ((keeps_alterReg ..).ordinary rfl)
  | cmpBImm8Rd | cmpBRsRd | cmpWImm16Rd | cmpWRsRd | cmpLImm32ERd | cmpLERsERd => exact .next ((keeps_testReg ..).ordinary rfl)
  | addsBy1ERd | addsBy2ERd | addsBy4ERd | subsBy1ERd | subsBy2ERd | subsBy4ERd | mulxuWRsERd =>
    exact .next ((keeps_setER ..).ordinary rfl)
  | daaRd | dasRd => exact .next ((keeps_decimalAdjust ..).ordinary rfl)
  | mulxuBRsRd => exact .next ((keeps_setReg16 ..).ordinary rfl)
  | stcBCCRRd | stcBEXRRd => exact .next ((keeps_setReg8 ..).ordinary rfl)
  | mulxsBRsRd | mulxsWRsERd => exact .next ((keeps_putProduct ..).ordinary rfl)
  | divxuBRsRd | divxuWRsERd | divxsBRsRd | divxsWRsERd => exact .next ((keeps_putQuotient ..).ordinary rfl)
  | tasAtERd => exact .ite ((keeps_testAndSet ..).ordinary rfl)
  | macERnIncERmInc => exact .withMac (execKeeps_multiplyAccumulate ..)
  | clrmac | ldmacERsMACH | ldmacERsMACL => exact .withMac (execKeeps_setMac rfl rfl _ _ _ _ _ _ (Spared.refl s))
  | stmacMACHERd | stmacMACLERd => exact .withMac ((keeps_storeMac ..).ordinary rfl)
  | bandImm3Rd | bandImm3AtERd | bandImm3Aa8 | bandImm3Aa16 | bandImm3Aa32 | biandImm3Rd | biandImm3AtERd
  | biandImm3Aa8 | biandImm3Aa16 | biandImm3Aa32 | bildImm3Rd | bildImm3AtERd | bildImm3Aa8 | bildImm3Aa16
  | bildImm3Aa32 | biorImm3Rd | biorImm3AtERd | biorImm3Aa8 | biorImm3Aa16 | biorImm3Aa32 | bixorImm3Rd
  | bixorImm3AtERd | bixorImm3Aa8 | bixorImm3Aa16 | bixorImm3Aa32 | bldImm3Rd | bldImm3AtERd | bldImm3Aa8
  | bldImm3Aa16 | bldImm3Aa32 | borImm3Rd | borImm3AtERd | borImm3Aa8 | borImm3Aa16 | borImm3Aa32 | btstImm3Rd
  | btstImm3AtERd | btstImm3Aa8 | btstImm3Aa16 | btstImm3Aa32 | btstRnRd | btstRnAtERd | btstRnAa8 | btstRnAa16
  | btstRnAa32 | bxorImm3Rd | bxorImm3AtERd | bxorImm3Aa8 | bxorImm3Aa16 | bxorImm3Aa32 =>
    exact .next ((keeps_testBit ..).ordinary rfl)
  | bclrImm3Rd | bclrImm3AtERd | bclrImm3Aa8 | bclrImm3Aa16 | bclrImm3Aa32 | bclrRnRd | bclrRnAtERd | bclrRnAa8
  | bclrRnAa16 | bclrRnAa32 | bistImm3Rd | bistImm3AtERd | bistImm3Aa8 | bistImm3Aa16 | bistImm3Aa32 | bnotImm3Rd
  | bnotImm3AtERd | bnotImm3Aa8 | bnotImm3Aa16 | bnotImm3Aa32 | bnotRnRd | bnotRnAtERd | bnotRnAa8 | bnotRnAa16
  | bnotRnAa32 | bsetImm3Rd | bsetImm3AtERd | bsetImm3Aa8 | bsetImm3Aa16 | bsetImm3Aa32 | bsetRnRd | bsetRnAtERd
  | bsetRnAa8 | bsetRnAa16 | bsetRnAa32 | bstImm3Rd | bstImm3AtERd | bstImm3Aa8 | bstImm3Aa16 | bstImm3Aa32 =>
    exact .next ((keeps_alterBit ..).ordinary rfl)
  | braD8 | braD16 | brnD8 | brnD16 | bhiD8 | bhiD16 | blsD8 | blsD16 | bccD8 | bccD16 | bcsD8 | bcsD16 | bneD8
  | bneD16 | beqD8 | beqD16 | bvcD8 | bvcD16 | bvsD8 | bvsD16 | bplD8 | bplD16 | bmiD8 | bmiD16 | bgeD8 | bgeD16
  | bltD8 | bltD16 | bgtD8 | bgtD16 | bleD8 | bleD16 => exact .next ((keeps_branchIf ..).ordinary rfl)
  | jmpAtERn | jmpAa24 => exact .next ((keeps_goTo ..).ordinary rfl)
  | jmpMemAa8 => exact .next ((keeps_goToRead ..).ordinary rfl)
  | bsrD8 | bsrD16 | jsrAtERn | jsrAa24 => exact .next ((keeps_callTo ..).ordinary rfl)
  | jsrMemAa8 => exact .next ((keeps_callToRead ..).ordinary rfl)
  | rts => exact .next ((keeps_return s).ordinary rfl)
  | trapa => exact .next (execKeeps_trapa ..)
  | rte => exact .next (execKeeps_rte s)
  | sleep => exact .next (execKeeps_sleep ..)
  | nop => exact .next ((keeps_advance ..).ordinary rfl)
  | ldcBImm8CCR | ldcBRsCCR | andcImm8CCR | orcImm8CCR | xorcImm8CCR => exact .next (execKeeps_loadCcr rfl _ _ (Spared.refl s))
  | ldcBImm8EXR | ldcBRsEXR | andcImm8EXR | orcImm8EXR | xorcImm8EXR =>
    exact .next (execKeeps_loadExr rfl rfl _ _ (Spared.refl s))
  | ldcWAtERsCCR | ldcWD16ERsCCR | ldcWD32ERsCCR | ldcWERsIncCCR | ldcWAa16CCR | ldcWAa32CCR =>
    exact .next (execKeeps_loadControlCcr rfl ..)
  | ldcWAtERsEXR | ldcWD16ERsEXR | ldcWD32ERsEXR | ldcWERsIncEXR | ldcWAa16EXR | ldcWAa32EXR =>
    exact .next (execKeeps_loadControlExr rfl rfl ..)
  | stcWCCRAtERd | stcWCCRD16ERd | stcWCCRD32ERd | stcWCCRDecERd | stcWCCRAa16 | stcWCCRAa32 | stcWEXRAtERd
  | stcWEXRD16ERd | stcWEXRD32ERd | stcWEXRDecERd | stcWEXRAa16 | stcWEXRAa32 =>
    exact .next ((keeps_storeControl ..).ordinary rfl)
  | eepmovB => exact .next ((keeps_copyBytesB ..).ordinary rfl)
  | eepmovW => exact .next (execKeeps_eepmovW ..)

/-- What an executed instruction keeps. -/
theorem exec_keeps {i : Instr} {s t : State} (h : exec i s = .next t) : ExecKeeps i s t := exec_onNext i s t h

end Sys2Proof.Machine
end

section
/-! SUPPORT. No step changes a parameter or an input (O52): each thing that the CPU can do at a boundary keeps them, takes offers
and acts from the front, and notes its changes of memory; abandoning it leaves the first of those changes. -/

namespace Sys2Proof.Machine

/-! ### Exception sequences and waiting -/

theorem interruptSequence_keepsInputs (req : Request) (s : State) : KeepsInputs s (interruptSequence req s) := by
  obtain ⟨henv, -⟩ := interruptSequence_rest req s
  exact {
    cfg := (interruptSequence_spec req s).cfg
    inputs := henv.inputs
    offers := henv.offers ▸ List.tail_suffix s.env.offers
    logged := interruptSequence_logged req s }

theorem traceSequence_keepsInputs (s : State) : KeepsInputs s (traceSequence s) :=
  (traceSequence_rest s).1.keepsInputs (traceSequence_spec s).cfg (traceSequence_logged s)

theorem resetSequence_keepsInputs (kind : ResetKind) (s : State) : KeepsInputs s (resetSequence kind s) :=
  ⟨rfl, rfl, List.suffix_rfl, resetSequence_logged kind s⟩

theorem setProcState_keepsInputs (p : ProcState) (s : State) : KeepsInputs s { s with procState := p } :=
  ⟨rfl, rfl, List.suffix_rfl, SameBus.logged ⟨rfl, rfl, rfl, rfl⟩⟩

theorem passOffer_keepsInputs (s : State) : KeepsInputs s (passOffer s) := by
  obtain ⟨-, -, -, -, hinputs, -⟩ := passOffer_fields s
  exact ⟨(passOffer_sameBus s).cfg, hinputs, passOffer_suffix s, (passOffer_sameBus s).logged⟩

theorem waitForException_keepsInputs (s : State) : KeepsInputs s (waitForException s) := by
  rcases waitForException_cases s with ⟨-, h⟩ | ⟨-, req, -, h⟩ | ⟨-, -, h⟩ <;> rw [h]
  · exact traceSequence_keepsInputs s
  · exact interruptSequence_keepsInputs req s
  · exact passOffer_keepsInputs s

/-! ### One instruction -/

theorem beginInstr_keepsInputs (s : State) : KeepsInputs s (beginInstr s) := by
  obtain ⟨henv, -⟩ := passOfferInside_fields s
  exact {
    cfg := (beginInstr_sameBus s).cfg
    inputs := by rw [beginInstr, henv]; rfl
    offers := passOfferInside_suffix s
    logged := (beginInstr_sameBus s).logged }

/-- At the end of an instruction its offers stand, or those of the state it began in after the examination there. -/
theorem endInstr_suffix (s t : State) (h : t.env.offers <:+ s.env.offers) : (endInstr s t).env.offers <:+ s.env.offers := by
  unfold endInstr
  split
  · exact passOffer_suffix s
  · exact h

theorem KeepsInputs.endInstr {s t : State} (h : KeepsInputs s t) : KeepsInputs s (endInstr s t) where
  cfg := (endInstr_sameBus s t).cfg.trans h.cfg
  inputs := by rw [endInstr_cases]; exact h.inputs
  offers := endInstr_suffix s t h.offers
  logged := h.logged.congr (endInstr_sameBus s t)

theorem runInstruction_keepsInputs {s : State} {d : Deed} (h : runInstruction s = .next d) : KeepsInputs s d.ends := by
  obtain ⟨-, i, u, -, hu, rfl⟩ := runInstruction_cases h
  exact ((beginInstr_keepsInputs s).trans (exec_keeps hu).toKeepsInputs).endInstr

/-! ### One step -/

theorem undertake_keepsInputs {s : State} {d : Deed} (h : undertake s = .next d) : KeepsInputs s d.ends := by
  rcases undertake_cases h with ⟨-, h⟩ | ⟨-, -, -, -, h⟩
  · rcases h with ⟨-, h⟩ | ⟨-, h⟩ | ⟨-, h | h⟩ | ⟨-, h⟩ | ⟨-, ⟨-, h⟩ | ⟨-, -, h⟩ | ⟨-, -, req, -, h⟩⟩ <;> rw [h]
    · exact resetSequence_keepsInputs s.env.resetKind s
    · exact KeepsInputs.refl s
    · exact KeepsInputs.refl s
    · exact setProcState_keepsInputs .programExecution s
    · exact waitForException_keepsInputs s
    · exact setProcState_keepsInputs .busReleased s
    · exact traceSequence_keepsInputs s
    · exact interruptSequence_keepsInputs req s
  · exact runInstruction_keepsInputs h

/-- What was abandoned has changed memory by the first of its changes; the environment's acts after them are still to come. -/
theorem abandoned_keepsInputs {s t : State} (n : Nat) (hw : s.writes = []) (h : KeepsInputs s t) :
    KeepsInputs s (abandoned n s t) := by
  obtain ⟨hmem, hacts, hcfg, hinputs⟩ := abandoned_leaves n hw h.logged h.cfg h.inputs
  have hwrites := abandoned_writes n s t
  exact {
    cfg := hcfg
    inputs := hinputs
    offers := h.offers
    logged := ⟨(abandoned n s t).writes, by rw [hw, List.append_nil], by rw [hwrites, hmem], by rw [hwrites, hacts]⟩ }

theorem enterHardwareStandby_keepsInputs (s : State) : KeepsInputs s (enterHardwareStandby s) :=
  ⟨rfl, rfl, List.suffix_rfl, SameBus.logged ⟨rfl, rfl, rfl, rfl⟩⟩

/-- RES or STBY gone low, where entering its state keeps the inputs. -/
theorem cutShort_keepsInputs {enter : State → State} {s t : State} (henter : ∀ u, KeepsInputs u (enter u))
    (hw : s.writes = []) (h : cutShort enter s = .next t) : KeepsInputs s t := by
  rcases cutShort_cases h with ⟨-, rfl⟩ | ⟨n, d, -, -, -, hd, -, rfl⟩
  · exact henter s
  · exact (abandoned_keepsInputs n hw (undertake_keepsInputs hd)).trans (henter _)

theorem step_keepsInputs {s t : State} (h : step s = .next t) : KeepsInputs (atBoundary s) t := by
  have hw : (atBoundary s).writes = [] := rfl
  rcases step_cases h with ⟨-, h⟩ | ⟨-, -, ⟨-, rfl⟩ | ⟨-, h⟩⟩ | ⟨-, -, d, hd, -, rfl⟩
  · exact cutShort_keepsInputs (setProcState_keepsInputs .reset) hw h
  · exact KeepsInputs.refl _
  · exact cutShort_keepsInputs enterHardwareStandby_keepsInputs hw h
  · exact undertake_keepsInputs hd

/-- From a state in which no change of memory is noted, the noted ones are those that `Logged` speaks of. -/
theorem Logged.of_none {s t : State} (h : Logged s t) (hw : s.writes = []) :
    t.mem = t.writes.reverse.foldl performChange s.mem ∧ s.env.acts = environmentWrites t.writes.reverse ++ t.env.acts := by
  obtain ⟨changes, hwrites, hmem, hacts⟩ := h
  rw [hw, List.append_nil] at hwrites
  rw [hwrites]
  exact ⟨hmem, hacts⟩

/-- Settles O52: the state at the boundary has the parameters, inputs and offers of the state before, and from there whatever the
step does keeps the inputs, with no change of memory noted at its beginning. -/
theorem parametersAndInputsNeverChange : Obligations.ParametersAndInputsNeverChange := by
  unfold Obligations.ParametersAndInputsNeverChange
  intro s t h
  have k := step_keepsInputs h
  exact ⟨k.cfg, k.inputs, k.offers, atBoundary_spec s, k.logged.of_none rfl⟩

end Sys2Proof.Machine
end

section
/-! SUPPORT. The invariant (O39, O40): memory stays canonical because every change of it is noted, and PC stays even and, in normal
mode, within 16 bits because every assignment to it stores such a value (R28, R29). -/

namespace Sys2Proof.Machine

/-! ### PC as an assignment stores it -/

/-- PC holds what an assignment to it stores (R28, R29). -/
def State.PcStored (s : State) : Prop := s.pc = pcValue s.cfg.mode s.pc

/-- The mask of an assignment to PC clears bit 0 and no other. -/
theorem pcMask_getLsbD : ∀ j < 24, (0xFFFFFE#24).getLsbD j = decide (j ≠ 0) := by decide

theorem pcValue_getLsbD_zero (mode : Mode) (v : BitVec 24) : (pcValue mode v).getLsbD 0 = false := by
  cases mode <;> simp [pcValue]

theorem pcValue_normal_lt (v : BitVec 24) : (pcValue .normal v).toNat < 2 ^ 16 := by
  calc (pcValue .normal v).toNat
    _ ≤ ((v.setWidth 16).setWidth 24).toNat := by
      rw [pcValue, BitVec.toNat_and]
      exact Nat.and_le_left
    _ < 2 ^ 16 := by
      rw [BitVec.toNat_setWidth_of_le (by decide)]
      exact (v.setWidth 16).isLt

/-- An even value is stored as it is. -/
theorem pcValue_advanced_of_even {v : BitVec 24} (h : v.getLsbD 0 = false) : pcValue .advanced v = v := by
  refine BitVec.eq_of_getLsbD_eq fun j hj => ?_
  rw [pcValue, BitVec.getLsbD_and, pcMask_getLsbD j hj]
  by_cases h0 : j = 0
  · rw [h0, h]
    rfl
  · simp [h0]

/-- So is an even value within 16 bits in normal mode. -/
theorem pcValue_normal_of_even {v : BitVec 24} (h : v.getLsbD 0 = false) (hv : v.toNat < 2 ^ 16) : pcValue .normal v = v := by
  have hw : (v.setWidth 16).setWidth 24 = v := by
    apply BitVec.eq_of_toNat_eq
    rw [BitVec.toNat_setWidth_of_le (by decide), BitVec.toNat_setWidth, Nat.mod_eq_of_lt hv]
  calc pcValue .normal v
    _ = pcValue .advanced ((v.setWidth 16).setWidth 24) := rfl
    _ = v := by rw [hw, pcValue_advanced_of_even h]

/-- What the invariant says of PC is that PC holds what an assignment stores. -/
theorem inv_iff (s : State) : s.Inv ↔ s.mem.wf = true ∧ s.PcStored := by
  unfold State.PcStored
  constructor
  · rintro ⟨hmem, heven, hnormal⟩
    refine ⟨hmem, ?_⟩
    cases hm : s.cfg.mode with
    | normal => exact (pcValue_normal_of_even heven (hnormal hm)).symm
    | advanced => exact (pcValue_advanced_of_even heven).symm
  · rintro ⟨hmem, hpc⟩
    refine ⟨hmem, ?_, fun hm => ?_⟩
    · rw [hpc]
      exact pcValue_getLsbD_zero s.cfg.mode s.pc
    · rw [hpc, hm]
      exact pcValue_normal_lt s.pc

/-! ### What ends with an assignment to PC, and what keeps PC -/

theorem setPc_pcStored (s : State) (v : BitVec 24) : (setPc s v).PcStored := (pcValue_idem s.cfg.mode v).symm

theorem State.PcStored.congr {s t : State} (h : s.PcStored) (hpc : t.pc = s.pc) (hcfg : t.cfg = s.cfg) : t.PcStored := by
  unfold State.PcStored
  rw [hpc, hcfg]
  exact h

theorem takeException_pcStored (ret : BitVec 24) (v : Nat) (x : Exr) (s : State) : (takeException ret v x s).PcStored :=
  setPc_pcStored _ _

theorem interruptSequence_pcStored (req : Request) (s : State) : (interruptSequence req s).PcStored :=
  (takeException_pcStored s.pc req.vector _ s).congr rfl rfl

theorem traceSequence_pcStored (s : State) : (traceSequence s).PcStored :=
  (takeException_pcStored s.pc s.cfg.traceVector _ s).congr rfl rfl

theorem resetSequence_pcStored (kind : ResetKind) (s : State) : (resetSequence kind s).PcStored := setPc_pcStored _ _

theorem freeRegisters_pcStored (s : State) : (freeRegisters s).PcStored := (pcValue_idem _ _).symm

theorem abandoned_pcStored (n : Nat) (s t : State) : (abandoned n s t).PcStored := (freeRegisters_pcStored t).congr rfl rfl

theorem enterReset_pcStored {s : State} (h : s.PcStored) : (enterReset s).PcStored := h.congr rfl rfl

theorem enterHardwareStandby_pcStored (s : State) : (enterHardwareStandby s).PcStored := (freeRegisters_pcStored s).congr rfl rfl

theorem waitForException_pcStored {s : State} (h : s.PcStored) : (waitForException s).PcStored := by
  rcases waitForException_cases s with ⟨-, hw⟩ | ⟨-, req, -, hw⟩ | ⟨-, -, hw⟩ <;> rw [hw]
  · exact traceSequence_pcStored s
  · exact interruptSequence_pcStored req s
  · obtain ⟨-, -, -, hpc, -, hu⟩ := passOffer_fields s
    exact h.congr hpc hu.cfg

theorem runInstruction_pcStored {s : State} {d : Deed} (h : runInstruction s = .next d) : d.ends.PcStored := by
  obtain ⟨-, i, u, -, hu, rfl⟩ := runInstruction_cases h
  have hpc : u.PcStored := (exec_keeps hu).pc
  exact hpc.congr (by rw [endInstr_cases]) (by rw [endInstr_cases])

/-! ### One step -/

theorem undertake_pcStored {s : State} {d : Deed} (hs : s.PcStored) (h : undertake s = .next d) : d.ends.PcStored := by
  rcases undertake_cases h with ⟨-, h⟩ | ⟨-, -, -, -, h⟩
  · rcases h with ⟨-, h⟩ | ⟨-, h⟩ | ⟨-, h | h⟩ | ⟨-, h⟩ | ⟨-, ⟨-, h⟩ | ⟨-, -, h⟩ | ⟨-, -, req, -, h⟩⟩ <;> rw [h]
    · exact resetSequence_pcStored s.env.resetKind s
    · exact hs
    · exact hs
    · exact hs.congr rfl rfl
    · exact waitForException_pcStored hs
    · exact hs.congr rfl rfl
    · exact traceSequence_pcStored s
    · exact interruptSequence_pcStored req s
  · exact runInstruction_pcStored h

/-- RES or STBY gone low, where entering its state leaves PC so. -/
theorem cutShort_pcStored {enter : State → State} {s t : State} (henter : ∀ u : State, u.PcStored → (enter u).PcStored)
    (hs : s.PcStored) (h : cutShort enter s = .next t) : t.PcStored := by
  rcases cutShort_cases h with ⟨-, rfl⟩ | ⟨n, d, -, -, -, -, -, rfl⟩
  · exact henter s hs
  · exact henter _ (abandoned_pcStored n s d.ends)

theorem step_pcStored {s t : State} (hs : s.PcStored) (h : step s = .next t) : t.PcStored := by
  have hb : (atBoundary s).PcStored := hs.congr rfl rfl
  rcases step_cases h with ⟨-, h⟩ | ⟨-, -, ⟨-, rfl⟩ | ⟨-, h⟩⟩ | ⟨-, -, d, hd, -, rfl⟩
  · exact cutShort_pcStored (fun _ => enterReset_pcStored) hb h
  · exact hb
  · exact cutShort_pcStored (fun u _ => enterHardwareStandby_pcStored u) hb h
  · exact undertake_pcStored hb hd

/-- Settles O39. -/
theorem resetStateIsGood : Obligations.ResetStateIsGood := by
  unfold Obligations.ResetStateIsGood
  exact (inv_iff State.reset).mpr ⟨reset_mem_wf, rfl⟩

/-- Settles O40: from the boundary on every change of memory is noted, so memory stays canonical; PC is kept, or the last thing
done to it is an assignment. -/
theorem everyStepKeepsInvariant : Obligations.EveryStepKeepsInvariant := by
  unfold Obligations.EveryStepKeepsInvariant
  intro s t hs h
  obtain ⟨hmem, hpc⟩ := (inv_iff s).mp hs
  exact (inv_iff t).mpr ⟨(step_keepsInputs h).logged.wf (atBoundary_wf hmem), step_pcStored hpc h⟩

end Sys2Proof.Machine
end

section
/-! SUPPORT. The special registers (O53) and the interrupt-inhibit window (O51): what an instruction keeps, from the beginning of
`exec` and of a step. -/

namespace Sys2Proof.Machine

/-- Settles O53: it is part of what every instruction keeps. -/
theorem specialRegistersChangeByTheirInstructionsOnly : Obligations.SpecialRegistersChangeByTheirInstructionsOnly := by
  unfold Obligations.SpecialRegistersChangeByTheirInstructionsOnly
  intro i s t h
  have k := exec_keeps h
  exact ⟨k.mac, k.exr, k.procState, k.noTrace⟩

/-- The inhibit window was closed when the instruction began, so it is open after it where the instruction opens it. -/
theorem runInstruction_inhibit {s : State} {i : Instr} {d : Deed} (hi : decode (instrBytes s) = some i)
    (h : runInstruction s = .next d) : d.ends.inhibit = opensInhibit i := by
  obtain ⟨-, j, u, hj, hu, rfl⟩ := runInstruction_cases h
  cases hi.symm.trans hj
  calc (endInstr s u).inhibit
    _ = u.inhibit := by rw [endInstr_cases]
    _ = (opensInhibit i || (beginInstr s).inhibit) := (exec_keeps hu).inhibit
    _ = opensInhibit i := Bool.or_false _

/-- While the window is open no request is accepted, NMI included (R481). -/
theorem acceptedRequest_of_inhibit {s : State} (h : s.inhibit = true) : acceptedRequest s = none := if_pos h

/-- Settles O51: a step that executes an instruction ends as the instruction does. -/
theorem onlyControlLoadsOpenInhibitWindow : Obligations.OnlyControlLoadsOpenInhibitWindow := by
  unfold Obligations.OnlyControlLoadsOpenInhibitWindow
  intro s t i hb hi h
  rw [step_executes hb] at h
  obtain ⟨d, hd, -, rfl⟩ := conclude_cases h
  have hinhibit : d.ends.inhibit = opensInhibit i := runInstruction_inhibit hi hd
  exact ⟨hinhibit, fun ho => acceptedRequest_of_inhibit (hinhibit.trans ho)⟩

end Sys2Proof.Machine
end

section
/-! SUPPORT. Reset (O49): before every other decision, seen at the boundary or inside what the CPU went on to do, and the sequence
that follows it (R45, R470, R471, R520). -/

namespace Sys2Proof.Machine

/-- With RES low the step is the reset's, whatever the processing state and STBY (R467, R520). -/
theorem step_reset {s : State} (h : s.env.resetAsserted = true) : step s = cutShort enterReset (atBoundary s) := by
  have hb : (atBoundary s).env.resetAsserted = true := h
  unfold step boundary boundaryDecision
  rw [if_pos hb]

/-- Reset arriving after `n` write cycles of what the CPU goes on to do (R520). -/
theorem step_reset_inside {s : State} {n : Nat} (hr : s.env.resetAsserted = true) (hg : s.cfg.granularity = .busCycle)
    (ha : s.env.arrival = .afterWrites n) (hp : s.procState ≠ .reset) :
    step s = conclude (fun t => enterReset (abandoned n (atBoundary s) t)) (undertake (atBoundary s)) :=
  (step_reset hr).trans (cutShort_inside enterReset hg ha hp)

/-- The order in which changes of memory are listed does not matter to where they store. -/
theorem storesInto_reverse (keys : List Nat) (changes : List MemoryChange) :
    StoresInto keys changes.reverse ↔ StoresInto keys changes := by
  simp only [StoresInto, List.mem_reverse]

/-- What the CPU went on to do, cut short after `n` write cycles, notes the changes performed by then. -/
theorem storesInto_abandoned_iff (keys : List Nat) (n : Nat) (s t : State) :
    StoresInto keys (abandoned n s t).writes ↔ StoresInto keys (changesUpTo n t.writes.reverse) := by
  rw [← storesInto_reverse, abandoned_writes]

/-- Entering the reset state changes nothing that `LeavesChanges` speaks of. -/
theorem LeavesChanges.enterReset {done : List MemoryChange} {s u : State} (h : LeavesChanges done s u) :
    LeavesChanges done s (enterReset u) := ⟨h.memory, h.acts, h.cfg, h.inputs⟩

/-- What the CPU went on to do, abandoned by a reset after `n` write cycles (R520): the changes performed by then stand, and one of
them in the window refuses. -/
theorem conclude_abandoned {s : State} {d : Deed} (n : Nat) (hw : s.writes = []) (hd : undertake s = .next d) :
    ∃ done, CutAfter n d.ends.writes.reverse done ∧
      (StoresInto d.window done → conclude (fun t => enterReset (abandoned n s t)) (.next d) = .refused .storeIntoPrefetch) ∧
      (¬ StoresInto d.window done → Completes (conclude (fun t => enterReset (abandoned n s t)) (.next d)) fun u =>
        u.procState = .reset ∧ LeavesChanges done s u) := by
  obtain ⟨hcfg, hinputs, -, hlogged⟩ := undertake_keepsInputs hd
  refine ⟨changesUpTo n d.ends.writes.reverse, cutAfter_changesUpTo n _, fun hs => ?_, fun hs => ?_⟩
  · exact conclude_refused ((storesInto_abandoned_iff d.window n s d.ends).mpr hs)
  · exact ⟨_, conclude_next fun hs' => hs ((storesInto_abandoned_iff d.window n s d.ends).mp hs'), rfl,
      (abandoned_leaves n hw hlogged hcfg hinputs).enterReset⟩

/-- With no bus request, trace or interrupt the CPU undertakes the instruction at PC, RES and STBY apart (R484). -/
theorem undertake_instruction {s : State} (hp : s.procState = .programExecution) (hb : s.env.busRequest = false)
    (ht : traceDue s = false) (ha : acceptedRequest s = none) : undertake s = runInstruction s := by
  unfold undertake
  simp only [hp, hb, ht, ha, Bool.false_eq_true, if_false]

/-- An instruction that is decoded and completes. -/
theorem runInstruction_next {s t : State} {i : Instr} (hs : s.stale = false) (hi : decode (instrBytes s) = some i)
    (h : exec i (beginInstr s) = .next t) :
    runInstruction s = .next { ends := endInstr s t, window := prefetchWindow i.size s } := by
  unfold runInstruction
  simp only [hs, hi, h, prefetchKeys_eq, Bool.false_eq_true, if_false]

/-- What the reset sequence does (R45, R471). -/
theorem resetSequence_spec (kind : ResetKind) (s : State) :
    let t := resetSequence kind s
    t.ccr.i = true ∧ t.exr = ⟨false, 7⟩ ∧ t.procState = .programExecution ∧ t.inhibit = true ∧ t.noTrace = false ∧
      t.pc = pcValue s.cfg.mode (vectorAddress s (resetVector kind)) ∧
      t.mem = (beforeCycles (addressCycles s.cfg) s).mem ∧ t.cfg = s.cfg ∧ SameEnv s t :=
  ⟨rfl, rfl, rfl, rfl, rfl, rfl, rfl, rfl, rfl⟩

/-- RES and STBY high in the reset state: the step is the reset sequence. -/
theorem step_of_reset {s : State} (hr : s.env.resetAsserted = false) (hs : s.env.standbyAsserted = false)
    (hp : s.procState = .reset) : step s = .next (resetSequence s.env.resetKind (atBoundary s)) := by
  have hb : (atBoundary s).procState = .reset := hp
  have hu : undertake (atBoundary s) = withoutWindow (resetSequence s.env.resetKind (atBoundary s)) := by
    unfold undertake
    rw [hb]
    rfl
  rw [step_proceeds hr hs, hu]
  exact conclude_next (not_storesInto_nil _)

/-- Settles O49: State.reset is evaluated; with RES low the step is `cutShort`, seen at the boundary or inside a deed; with RES and
STBY high it is what the CPU undertakes, in the reset state the reset sequence. -/
theorem resetLoadsVectorAndMasks : Obligations.ResetLoadsVectorAndMasks := by
  unfold Obligations.ResetLoadsVectorAndMasks
  refine ⟨⟨rfl, rfl, rfl, rfl, rfl, by decide⟩, fun s => ⟨fun hr => ⟨fun hseen => ?boundary, fun n hg ha hp => ⟨?inside, ?refused,
    ?instruction⟩⟩, fun hr hs => ⟨step_proceeds hr hs, fun hp => ?sequence⟩⟩⟩
  case boundary => exact (step_reset hr).trans (cutShort_atBoundary enterReset hseen)
  case inside =>
    intro d hd
    rw [step_reset_inside hr hg ha hp, hd]
    exact conclude_abandoned n rfl hd
  case refused =>
    intro r hd
    rw [step_reset_inside hr hg ha hp, hd]
    rfl
  case instruction =>
    intro i t hrun hbus htrace hrequest hstale hi ht
    exact (undertake_instruction (s := atBoundary s) hrun hbus htrace hrequest).trans (runInstruction_next hstale hi ht)
  case sequence =>
    obtain ⟨hi, hexr, hproc, hinhibit, hnoTrace, hpc, hmem, hcfg, henv⟩ := resetSequence_spec s.env.resetKind (atBoundary s)
    exact ⟨_, step_of_reset hr hs hp, hi, hexr, hproc, hinhibit, hnoTrace, hpc, hmem, hcfg, henv⟩

end Sys2Proof.Machine
end

section
/-! SUPPORT. En, Rn, RnH and RnL as views of ERn (O57, R21): the bits of ERn after a write to a part of it. -/

namespace Sys2Proof.Machine

theorem otherRegisters_setER (n : RegNum) (v : Long) (s : State) : OtherRegisters n s (setER s n v) :=
  fun _ hm => getER_setER_ne s v hm

theorem getLsbD_setReg16_e (s : State) (n : RegNum) (v : Half) (j : Nat) :
    (getER (setReg16 s (.e n) v) n).getLsbD j = if 16 ≤ j then v.getLsbD (j - 16) else (getER s n).getLsbD j := by
  rw [setReg16, getER_setER_same, BitVec.getLsbD_append, BitVec.getLsbD_extractLsb']
  by_cases h : j < 16 <;> simp [h]

theorem getLsbD_setReg16_r (s : State) (n : RegNum) (v : Half) {j : Nat} (hj : j < 32) :
    (getER (setReg16 s (.r n) v) n).getLsbD j = if j < 16 then v.getLsbD j else (getER s n).getLsbD j := by
  rw [setReg16, getER_setER_same, BitVec.getLsbD_append, BitVec.getLsbD_extractLsb']
  by_cases h : j < 16
  · simp [h]
  · simp [h, show j - 16 < 16 by omega, show 16 + (j - 16) = j by omega]

theorem getLsbD_setReg8_h (s : State) (n : RegNum) (u : Byte) {j : Nat} (hj : j < 32) :
    (getER (setReg8 s (.h n) u) n).getLsbD j =
      if 8 ≤ j ∧ j < 16 then u.getLsbD (j - 8) else (getER s n).getLsbD j := by
  rw [setReg8, getER_setER_same, BitVec.getLsbD_append, BitVec.getLsbD_append, BitVec.getLsbD_extractLsb',
    BitVec.getLsbD_extractLsb']
  by_cases hl : j < 8
  · simp [hl]
  · by_cases hh : j < 16
    · simp [hl, hh, show 8 ≤ j by omega, show j - 8 < 8 by omega]
    · simp [hl, hh, show ¬ j - 8 < 8 by omega, show j - 8 - 8 < 16 by omega, show 16 + (j - 8 - 8) = j by omega]

theorem getLsbD_setReg8_l (s : State) (n : RegNum) (u : Byte) {j : Nat} (hj : j < 32) :
    (getER (setReg8 s (.l n) u) n).getLsbD j = if j < 8 then u.getLsbD j else (getER s n).getLsbD j := by
  rw [setReg8, getER_setER_same, BitVec.getLsbD_append, BitVec.getLsbD_extractLsb']
  by_cases h : j < 8
  · simp [h]
  · simp [h, show j - 8 < 24 by omega, show 8 + (j - 8) = j by omega]

/-- Settles O57: a read is a slice of ERn by definition, and a write puts ERn together from the new part and the old rest. -/
theorem registerNamesAreViews : Obligations.RegisterNamesAreViews := by
  unfold Obligations.RegisterNamesAreViews
  intro s n v u
  refine ⟨⟨rfl, rfl, rfl, rfl⟩, fun j hj => ?_, ?_, ?_, ?_, ?_⟩
  · exact ⟨getLsbD_setReg16_e s n v j, getLsbD_setReg16_r s n v hj, getLsbD_setReg8_h s n u hj, getLsbD_setReg8_l s n u hj⟩
  all_goals exact otherRegisters_setER n _ s

end Sys2Proof.Machine
end

section
/-! SUPPORT. What each data addressing mode forms and changes, and what an assignment to PC stores, in the terms of arithmetic (O59,
R71, R28, R29). -/

namespace Sys2Proof.Machine

/-! ### What an assignment to PC stores -/

/-- PC's mask rounds down to an even value. -/
theorem toNat_and_pcMask (v : BitVec 24) : (v &&& 0xFFFFFE#24).toNat = v.toNat / 2 * 2 := by
  have hshift : v &&& 0xFFFFFE#24 = v >>> 1 <<< 1 := by
    refine BitVec.eq_of_getLsbD_eq fun j hj => ?_
    rw [BitVec.getLsbD_and, pcMask_getLsbD j hj, BitVec.getLsbD_shiftLeft, BitVec.getLsbD_ushiftRight]
    cases j with
    | zero => simp
    | succ j => simp [hj, Nat.add_comm 1 j]
  rw [hshift, BitVec.toNat_shiftLeft, BitVec.toNat_ushiftRight, Nat.shiftRight_eq_div_pow, Nat.shiftLeft_eq]
  exact Nat.mod_eq_of_lt (by omega)

theorem pcValue_advanced_toNat (v : BitVec 24) : (pcValue .advanced v).toNat = v.toNat / 2 * 2 := toNat_and_pcMask v

theorem pcValue_normal_toNat (v : BitVec 24) : (pcValue .normal v).toNat = v.toNat % 2 ^ 16 / 2 * 2 := by
  rw [pcValue, toNat_and_pcMask, BitVec.toNat_setWidth_of_le (by decide), BitVec.toNat_setWidth]

/-! ### Addressing modes -/

/-- An 8-bit absolute address lies in the top 256 bytes. -/
theorem abs8_toNat (a : BitVec 8) : (0xFFFFFF#24 ++ a).toNat = 0xFFFFFF00 + a.toNat := by
  rw [BitVec.toNat_append, ← Nat.shiftLeft_add_eq_or_of_lt a.isLt]
  rfl

/-- A write to a general register leaves all that is neither register, PC, CCR nor memory. -/
theorem untouched_setER (s : State) (n : RegNum) (v : Long) : Untouched s (setER s n v) := by constructor <;> rfl

/-- What the two modes that change their address register do: ERn takes the value `v`, nothing else changes. -/
theorem setER_frame (s : State) (n : RegNum) (v : Long) :
    let t := setER s n v
    getER t n = v ∧ OtherRegisters n s t ∧ SameMemory s t ∧ t.ccr = s.ccr ∧ t.pc = s.pc ∧ Untouched s t :=
  ⟨getER_setER_same s n v, otherRegisters_setER n v s, fun _ => rfl, rfl, rfl, untouched_setER s n v⟩

/-- Settles O59: each mode by its own arm of the address and of the update. -/
theorem addressingModesAndPcValues : Obligations.AddressingModesAndPcValues := by
  unfold Obligations.AddressingModesAndPcValues
  intro s n d16 d32 aa8 sz v
  refine ⟨?addresses, setER_frame s n _, setER_frame s n _, ?unchanged, pcValue_advanced_toNat v, pcValue_normal_toNat v⟩
  case addresses => exact ⟨rfl, rfl, rfl, rfl, rfl, abs8_toNat aa8, rfl, rfl⟩
  case unchanged =>
    simp only [List.forall_mem_cons, List.not_mem_nil, false_imp_iff, implies_true, and_true]
    exact ⟨rfl, rfl, rfl, rfl, rfl, rfl⟩

end Sys2Proof.Machine
end

section
/-! SUPPORT. Memory as the CPU reaches it (O58): the normalised address, the environment's act before a bus cycle (R81, D13), and a
word or longword read back after it was written (R61 to R66). -/

namespace Sys2Proof.Machine

/-! ### The normalised address -/

theorem norm_normal {cfg : Config} (h : cfg.mode = .normal) (a : Long) : norm cfg a = (a.setWidth 16).setWidth 32 := by
  rw [norm, h]

theorem norm_advanced {cfg : Config} (h : cfg.mode = .advanced) (a : Long) : norm cfg a = a &&& cfg.addrMask := by rw [norm, h]

theorem norm_normal_toNat {cfg : Config} (h : cfg.mode = .normal) (a : Long) : (norm cfg a).toNat = a.toNat % 2 ^ 16 := by
  rw [norm_normal h, BitVec.toNat_setWidth_of_le (by decide), BitVec.toNat_setWidth]

/-! ### The environment before a bus cycle -/

/-- At granularity `bus_cycle` the environment does its next act before a bus cycle, and notes it. -/
theorem beforeCycle_act {s : State} {act : WriteCycle} {acts : List WriteCycle} (hg : s.cfg.granularity = .busCycle)
    (ha : s.env.acts = act :: acts) :
    beforeCycle s = { s with
      mem := performCycle s.mem act
      writes := .environment act :: s.writes
      env := { s.env with acts := acts } } := by
  simp [beforeCycle, beforeCycles, actsBefore, environmentActs, hg, ha]

theorem State.Undisturbed.write {s : State} (h : s.Undisturbed) (c : WriteCycle) : (write c s).Undisturbed :=
  h.imp id fun ha => by
    show (Sys2Proof.Machine.beforeCycle s).env.acts = []
    rw [h.beforeCycle, ha]

theorem State.Undisturbed.write8 {s : State} (h : s.Undisturbed) (a : Long) (v : Byte) : (write8 s a v).Undisturbed := h.write _

theorem State.Undisturbed.write16 {s : State} (h : s.Undisturbed) (a : Long) (v : Half) : (write16 s a v).Undisturbed := h.write _

theorem State.Undisturbed.write32 {s : State} (h : s.Undisturbed) (a v : Long) : (write32 s a v).Undisturbed :=
  (h.write16 _ _).write16 _ _

/-- Undisturbed, a read has the value that stands in memory now. -/
theorem State.Undisturbed.read8 {s : State} (h : s.Undisturbed) (a : Long) : read8 s a = byteAt s a := by
  rw [Sys2Proof.Machine.read8, h.beforeCycle]

theorem State.Undisturbed.read16 {s : State} (h : s.Undisturbed) (a : Long) : read16 s a = wordAt s a := by
  rw [Sys2Proof.Machine.read16, h.beforeCycle]

theorem State.Undisturbed.read32 {s : State} (h : s.Undisturbed) (a : Long) :
    read32 s a = wordAt s (evenAddr a) ++ wordAt s (evenAddr a + 2) := by
  rw [Sys2Proof.Machine.read32, h.beforeCycle, h.read16, h.read16]

/-! ### A write, and a read after it -/

theorem write8_outside (s : State) (a : Long) (v : Byte) :
    SameMemoryOutside [byteKey s.cfg a] (beforeCycle s) (write8 s a v) :=
  fun _ hk => (write8_agreeAt s a v (List.ne_of_not_mem_cons hk)).byte

/-- A word store leaves at its key the upper byte and next to it the lower one. -/
theorem readByte_write16_upper (s : State) (a : Long) (v : Half) :
    readByte (write16 s a v).mem (wordKey s.cfg a) = v.extractLsb' 8 8 := by
  rw [readByte_write16, if_neg (by omega), if_pos rfl]

theorem readByte_write16_lower (s : State) (a : Long) (v : Half) :
    readByte (write16 s a v).mem (wordKey s.cfg a + 1) = v.extractLsb' 0 8 := by
  rw [readByte_write16, if_pos rfl]

/-- A word that a store does not reach stands as the environment has left it. -/
theorem wordAt_write16_disjoint (s : State) (a b : Long) (v : Half) (h : (wordKeys s.cfg a).Disjoint (wordKeys s.cfg b)) :
    wordAt (write16 s b v) a = wordAt (beforeCycle s) a := by
  have hupper : wordKey s.cfg a ∉ wordKeys s.cfg b := h (by simp [wordKeys])
  have hlower : wordKey s.cfg a + 1 ∉ wordKeys s.cfg b := h (by simp [wordKeys])
  simp only [wordAt, write16_cfg, beforeCycle_cfg, write16_outside s b v _ hupper, write16_outside s b v _ hlower]

theorem read8_write8 {s : State} (h : s.Undisturbed) (a : Long) (v : Byte) : read8 (write8 s a v) a = v := by
  rw [(h.write8 a v).read8, byteAt_write8_same]

theorem read16_write16 {s : State} (h : s.Undisturbed) (a : Long) (v : Half) : read16 (write16 s a v) a = v := by
  rw [(h.write16 a v).read16, wordAt_write16_same]

/-- A longword is read back where its two words do not overlap: the store of the lower word leaves the upper one. -/
theorem read32_write32 {s : State} (h : s.Undisturbed) (a v : Long) (hkeys : (longKeys s.cfg a).Nodup) :
    read32 (write32 s a v) a = v := by
  have hdisjoint : (wordKeys s.cfg (evenAddr a)).Disjoint (wordKeys s.cfg (evenAddr a + 2)) :=
    List.disjoint_of_nodup_append hkeys
  have hupper : wordAt (write32 s a v) (evenAddr a) = v.extractLsb' 16 16 := by
    refine (wordAt_write16_disjoint (write16 s _ _) _ _ _ hdisjoint).trans ?_
    rw [(h.write16 _ _).beforeCycle, wordAt_write16_same]
  have hlower : wordAt (write32 s a v) (evenAddr a + 2) = v.extractLsb' 0 16 := wordAt_write16_same _ _ _
  rw [(h.write32 a v).read32, hupper, hlower, BitVec.extractLsb'_append_extractLsb'_eq_extractLsb' (by omega)]
  simp

/-- Settles O58: what a write leaves is read off the two laws of a byte and a word store; what is written is read back because
nothing happens before the read's bus cycles. -/
theorem memoryReadsWhatWasWritten : Obligations.MemoryReadsWhatWasWritten := by
  unfold Obligations.MemoryReadsWhatWasWritten
  intro s a b h l
  refine ⟨⟨fun hm => norm_normal_toNat hm a, fun hm => norm_advanced hm a⟩,
    ⟨State.Undisturbed.beforeCycle, fun hg act acts ha => beforeCycle_act hg ha⟩, ?byte, ?word, ?long, ?readBack, ?canonical,
    ⟨rfl, rfl⟩, ⟨rfl, rfl⟩⟩
  case byte => exact ⟨rfl, byteAt_write8_same s a b, write8_outside s a b⟩
  case word => exact ⟨rfl, readByte_write16_upper s a h, readByte_write16_lower s a h, write16_outside s a h⟩
  case long =>
    refine ⟨rfl, rfl, ?_⟩
    rw [show beforeCycle (beforeCycle s) = beforeCycles 2 s from beforeCycles_succ 1 s]
    exact write32_outside s a l
  case readBack => exact fun hu => ⟨read8_write8 hu a b, read16_write16 hu a h, read32_write32 hu a l⟩
  case canonical =>
    exact fun hw => ⟨(beforeCycles_logged 1 s).wf hw, write8_wf s a b hw, write16_wf s a h hw, write32_wf s a l hw⟩

end Sys2Proof.Machine
end

section
/-! SUPPORT. The bytes that are decoded (O45, R67): each word of an instruction stands at an even address, so its second byte is the
one at the next address, where the product's mask keeps bit 0. -/

namespace Sys2Proof.Machine

/-! ### Even addresses -/

/-- Bit 0 of an address reaches memory (R61). -/
def KeepsBit0 (cfg : Config) : Prop := cfg.mode = .advanced → cfg.addrMask.getLsbD 0 = true

theorem evenAddr_of_even {a : Long} (h : a.getLsbD 0 = false) : evenAddr a = a := by
  have hmask : ∀ j < 32, (0xFFFFFFFE#32).getLsbD j = decide (j ≠ 0) := by decide
  refine BitVec.eq_of_getLsbD_eq fun j hj => ?_
  rw [evenAddr, BitVec.getLsbD_and, hmask j hj]
  rcases eq_or_ne j 0 with rfl | h0
  · rw [h, Bool.false_and]
  · simp [h0]

/-- The address after an even one differs from it in bit 0 only. -/
theorem add_one_of_even {w : Nat} {a : BitVec w} (h : a.getLsbD 0 = false) : a + 1#w = a ||| 1#w := by
  refine BitVec.add_eq_or_of_and_eq_zero _ _ (BitVec.eq_of_getLsbD_eq fun j hj => ?_)
  rw [BitVec.getLsbD_and, BitVec.getLsbD_one, BitVec.getLsbD_zero]
  rcases eq_or_ne j 0 with rfl | h0
  · rw [h, Bool.false_and]
  · simp [h0]

theorem norm_even (cfg : Config) {a : Long} (h : a.getLsbD 0 = false) : (norm cfg a).getLsbD 0 = false := by
  cases hm : cfg.mode with
  | normal => simpa [norm_normal hm] using h
  | advanced => rw [norm_advanced hm, BitVec.getLsbD_and, h, Bool.false_and]

/-- Normalising keeps the step from an even address to the next. -/
theorem norm_or_one {cfg : Config} (hc : KeepsBit0 cfg) (a : Long) : norm cfg (a ||| 1#32) = norm cfg a ||| 1#32 := by
  cases hm : cfg.mode with
  | normal =>
    rw [norm_normal hm, norm_normal hm, BitVec.setWidth_or, BitVec.setWidth_or]
    rfl
  | advanced =>
    rw [norm_advanced hm, norm_advanced hm]
    refine BitVec.eq_of_getLsbD_eq fun j hj => ?_
    simp only [BitVec.getLsbD_and, BitVec.getLsbD_or, BitVec.getLsbD_one]
    rcases eq_or_ne j 0 with rfl | h0
    · simp only [hc hm, Bool.and_true]
    · simp [h0]

theorem wordKey_of_even (cfg : Config) {a : Long} (h : a.getLsbD 0 = false) : wordKey cfg a = byteKey cfg a := by
  rw [wordKey, evenAddr_of_even (norm_even cfg h), byteKey]

/-- The byte at the address after an even one is the second byte of the word there. -/
theorem byteKey_succ_of_even {cfg : Config} (hc : KeepsBit0 cfg) {a : Long} (h : a.getLsbD 0 = false) :
    byteKey cfg (a + 1#32) = wordKey cfg a + 1 :=
  calc byteKey cfg (a + 1#32)
    _ = (norm cfg a ||| 1#32).toNat := by rw [byteKey, add_one_of_even h, norm_or_one hc]
    _ = (norm cfg a + 1#32).toNat := by rw [add_one_of_even (norm_even cfg h)]
    _ = (evenAddr (norm cfg a) + 1#32).toNat := by rw [evenAddr_of_even (norm_even cfg h)]
    _ = wordKey cfg a + 1 := evenAddr_succ_toNat cfg a

/-! ### The bytes of an instruction -/

/-- From an even PC every word of the instruction stands at an even address. -/
theorem fetchAddr_even {s : State} (h : s.pc.getLsbD 0 = false) (j : Nat) : (fetchAddr s j).getLsbD 0 = false := by
  rw [BitVec.getLsbD, Nat.testBit_zero] at h ⊢
  simp only [fetchAddr, codeAddr, BitVec.toNat_setWidth, BitVec.toNat_add, BitVec.toNat_ofNat, decide_eq_false_iff_not] at h ⊢
  omega

/-- The second byte of a word stands at the next address: the step from an even offset never leaves the 24 bits of PC. -/
theorem codeAddr_odd {s : State} (h : s.pc.getLsbD 0 = false) (j : Nat) : codeAddr s (2 * j + 1) = fetchAddr s j + 1#32 := by
  rw [BitVec.getLsbD, Nat.testBit_zero] at h
  apply BitVec.eq_of_toNat_eq
  simp only [fetchAddr, codeAddr, BitVec.toNat_setWidth, BitVec.toNat_add, BitVec.toNat_ofNat, decide_eq_false_iff_not] at h ⊢
  omega

theorem fetchWord_eq (s : State) (j : Nat) :
    fetchWord s j = [readByte s.mem (wordKey s.cfg (fetchAddr s j)), readByte s.mem (wordKey s.cfg (fetchAddr s j) + 1)] := by
  rw [fetchWord, wordAt, BitVec.extractLsb'_append_eq_left, BitVec.extractLsb'_append_eq_right]

/-- Bytes 2j and 2j + 1 of what is decoded are those of word j. -/
theorem instrBytes_word (s : State) {j : Nat} (hj : j < 5) :
    (instrBytes s)[2 * j]? = some (readByte s.mem (wordKey s.cfg (fetchAddr s j))) ∧
      (instrBytes s)[2 * j + 1]? = some (readByte s.mem (wordKey s.cfg (fetchAddr s j) + 1)) := by
  simp only [instrBytes, fetchWord_eq]
  interval_cases j <;> exact ⟨rfl, rfl⟩

/-- Settles O45: byte k is the first or the second byte of word k / 2. -/
theorem fetchReadsConsecutiveBytes : Obligations.FetchReadsConsecutiveBytes := by
  unfold Obligations.FetchReadsConsecutiveBytes
  intro s hs hc k hk
  show (instrBytes s)[k]? = some (readByte s.mem (byteKey s.cfg (codeAddr s k)))
  have heven : (fetchAddr s (k / 2)).getLsbD 0 = false := fetchAddr_even hs.pcEven (k / 2)
  obtain ⟨hfirst, hsecond⟩ := instrBytes_word s (j := k / 2) (by omega)
  rcases Nat.mod_two_eq_zero_or_one k with h2 | h2
  · have hk' : 2 * (k / 2) = k := by omega
    rw [wordKey_of_even s.cfg heven, fetchAddr, hk'] at hfirst
    exact hfirst
  · have hk' : 2 * (k / 2) + 1 = k := by omega
    rw [← byteKey_succ_of_even hc heven, ← codeAddr_odd hs.pcEven, hk'] at hsecond
    exact hsecond

end Sys2Proof.Machine
end

section
/-! SUPPORT. Bcc by its condition field (O28, R107): the sixteen instructions of each displacement width branch as the condition
with their number says. -/

namespace Sys2Proof.Machine

/-- Bcc d:8 branches by the condition of its number. -/
theorem exec_bcc8 (cc : BitVec 4) (disp : BitVec 8) (s : State) :
    exec (bcc8 cc disp) s = .next (branchIf cc 2 (disp.signExtend 24) s) := by
  obtain ⟨n, hn⟩ := cc
  interval_cases n <;> rfl

/-- Bcc d:16 branches by the condition of its number. -/
theorem exec_bcc16 (cc : BitVec 4) (disp : BitVec 16) (s : State) :
    exec (bcc16 cc disp) s = .next (branchIf cc 4 (disp.signExtend 24) s) := by
  obtain ⟨n, hn⟩ := cc
  interval_cases n <;> rfl

theorem bcc8_branches (cc : BitVec 4) (disp : BitVec 8) (s : State) :
    Branches 2 (disp.signExtend 24) (condition cc s.ccr) s (exec (bcc8 cc disp) s) := by
  rw [exec_bcc8]
  exact branchIf_spec cc 2 (disp.signExtend 24) s

theorem bcc16_branches (cc : BitVec 4) (disp : BitVec 16) (s : State) :
    Branches 4 (disp.signExtend 24) (condition cc s.ccr) s (exec (bcc16 cc disp) s) := by
  rw [exec_bcc16]
  exact branchIf_spec cc 4 (disp.signExtend 24) s

/-- Settles O28: the conditions are listed in the order of their numbers, each with both displacement widths. -/
theorem branchesFollowConditions : Obligations.BranchesFollowConditions := by
  unfold Obligations.BranchesFollowConditions
  exact ⟨bcc8_branches 0x0, bcc16_branches 0x0, bcc8_branches 0x1, bcc16_branches 0x1, bcc8_branches 0x2, bcc16_branches 0x2,
    bcc8_branches 0x3, bcc16_branches 0x3, bcc8_branches 0x4, bcc16_branches 0x4, bcc8_branches 0x5, bcc16_branches 0x5,
    bcc8_branches 0x6, bcc16_branches 0x6, bcc8_branches 0x7, bcc16_branches 0x7, bcc8_branches 0x8, bcc16_branches 0x8,
    bcc8_branches 0x9, bcc16_branches 0x9, bcc8_branches 0xA, bcc16_branches 0xA, bcc8_branches 0xB, bcc16_branches 0xB,
    bcc8_branches 0xC, bcc16_branches 0xC, bcc8_branches 0xD, bcc16_branches 0xD, bcc8_branches 0xE, bcc16_branches 0xE,
    bcc8_branches 0xF, bcc16_branches 0xF⟩

end Sys2Proof.Machine
end

section
/-! SUPPORT. What is refused by name: the encodings that do not exist (O19), bytes that are no instruction and code that may have
been prefetched before it was stored into (O44). -/

namespace Sys2Proof.Machine

/-! ### Encodings that do not exist -/

/-- The MAC group on the H8S/2000 (R115, D2). -/
theorem withMac_h8s2000 {s : State} (h : s.cfg.cpu = .h8s2000) (t : State) : withMac t s = .refused .macGroupOnH8S2000 := by
  rw [withMac, h]

/-- LDM, STM and TAS, which test their register (R189, R190, R278). -/
theorem refused_of_unlisted {listed : Bool} (h : listed = false) (t : State) :
    (if listed then .next t else .refused .undefinedEncoding : Result) = .refused .undefinedEncoding :=
  if_neg (Bool.eq_false_iff.mp h)

/-- Settles O19. -/
theorem absentEncodingsRefused : Obligations.AbsentEncodingsRefused := by
  unfold Obligations.AbsentEncodingsRefused
  refine fun n m s => ⟨fun hcpu => ?mac, fun h => refused_of_unlisted h (loadList 2 n s),
    fun h => refused_of_unlisted h (loadList 3 n s), fun h => refused_of_unlisted h (loadList 4 n s),
    fun h => refused_of_unlisted h (storeList 2 n s), fun h => refused_of_unlisted h (storeList 3 n s),
    fun h => refused_of_unlisted h (storeList 4 n s), fun h => refused_of_unlisted h (testAndSet n s)⟩
  case mac =>
    simp only [List.forall_mem_cons, List.not_mem_nil, false_implies, implies_true, and_true]
    exact ⟨withMac_h8s2000 hcpu _, withMac_h8s2000 hcpu _, withMac_h8s2000 hcpu _, withMac_h8s2000 hcpu _,
      withMac_h8s2000 hcpu _, withMac_h8s2000 hcpu _⟩

/-! ### The instruction at PC -/

theorem runInstruction_stale {s : State} (h : s.stale = true) : runInstruction s = .refused .storeIntoPrefetch := by
  rw [runInstruction, if_pos h]

theorem runInstruction_undefined {s : State} (h : s.stale = false) (hd : decode (instrBytes s) = none) :
    runInstruction s = .refused .undefinedEncoding := by
  simp only [runInstruction, h, hd, Bool.false_eq_true, if_false]

/-- Settles O44: the step is what the instruction at PC comes to, and its end notes no change of memory. -/
theorem undefinedBytesAndPrefetchStoresRefused : Obligations.UndefinedBytesAndPrefetchStoresRefused := by
  unfold Obligations.UndefinedBytesAndPrefetchStoresRefused
  intro s b hb
  have hstep : step s = conclude (fun t => t) (runInstruction b) := step_executes hb
  rw [hstep]
  refine ⟨fun h => ?stale, fun h hd => ?undefined, fun i t h hd hx hw => ?stored⟩
  case stale => rw [runInstruction_stale h, conclude]
  case undefined => rw [runInstruction_undefined h hd, conclude]
  case stored =>
    rw [runInstruction_next h hd hx]
    rw [← (endInstr_sameBus b t).writes] at hw
    exact conclude_refused hw

end Sys2Proof.Machine
end

section
/-! SUPPORT. What the decoder answers is well formed (O42): one lemma for each table of the decoder, in their order. A row of a
table reads its fields and names an instruction, whose well-formedness is then a computation. -/

namespace Sys2Proof

/-- Where the decoder answers an instruction, it is well formed. -/
abbrev YieldsWellFormed (o : Option Instr) : Prop := o.all Instr.wellFormed = true

/-! ### The ways in which a row answers -/

/-- One of two readings by a top bit. -/
theorem yields_byTop {x : BitVec 4} {i j : Instr} (hi : i.wellFormed = true) (hj : j.wellFormed = true) :
    YieldsWellFormed (some (byTop x i j)) := by
  unfold byTop
  split
  · exact hj
  · exact hi

/-- A field that is not there, or an instruction with it. -/
theorem yields_map {α : Type} {o : Option α} {f : α → Instr} (h : ∀ a, (f a).wellFormed = true) :
    YieldsWellFormed (o.map f) := by
  cases o with
  | none => rfl
  | some a => exact h a

/-- A field that is not there, or what is read with it. -/
theorem yields_bind {α : Type} {o : Option α} {f : α → Option Instr} (h : ∀ a, YieldsWellFormed (f a)) :
    YieldsWellFormed (o.bind f) := by
  cases o with
  | none => rfl
  | some a => exact h a

/-- A check on the fields. -/
theorem yields_ite {c : Prop} [Decidable c] {o p : Option Instr} (ho : c → YieldsWellFormed o) (hp : ¬c → YieldsWellFormed p) :
    YieldsWellFormed (if c then o else p) := by
  split
  · exact ho ‹_›
  · exact hp ‹_›

/-- The rows that MOV through @ERn+ and @-ERn share with POP and PUSH, which stand for ER7 (R118). -/
theorem yields_unlessER7 {x : BitVec 4} {n : RegNum} {pop push load store : Instr} (hpop : pop.wellFormed = true)
    (hpush : push.wellFormed = true) (hload : load.wellFormed = (n != 7)) (hstore : store.wellFormed = (n != 7)) :
    YieldsWellFormed (if n = 7 then some (byTop x pop push) else some (byTop x load store)) :=
  yields_ite (fun _ => yields_byTop hpop hpush) fun h =>
    yields_byTop (hload.trans (bne_iff_ne.mpr h)) (hstore.trans (bne_iff_ne.mpr h))

/-- A nibble that must be 0. -/
theorem yields_ifZero {x : BitVec 4} {o : Option Instr} (h : YieldsWellFormed o) : YieldsWellFormed (if x ≠ 0 then none else o) :=
  yields_ite (fun _ => rfl) fun _ => h

/-! ### Bit operations on memory (R112) -/

/-- An operation word that a table of them reads. -/
theorem opWord_wellFormed {f : Byte → Byte → Option Instr} (h : ∀ o x, YieldsWellFormed (f o x)) (bytes : List Byte) :
    YieldsWellFormed (opWord f bytes) := by
  unfold opWord
  split
  · exact h _ _
  · rfl

theorem bitReadAtERd_wellFormed (erd : RegNum) (o x : Byte) : YieldsWellFormed (bitReadAtERd erd o x) := by
  refine yields_ifZero ?_
  split
  case h_2 => exact yields_map fun _ => rfl
  case h_3 | h_4 | h_5 | h_6 => exact yields_byTop rfl rfl
  all_goals rfl

theorem bitWriteAtERd_wellFormed (erd : RegNum) (o x : Byte) : YieldsWellFormed (bitWriteAtERd erd o x) := by
  refine yields_ifZero ?_
  split
  case h_4 => exact yields_byTop rfl rfl
  case h_5 | h_6 | h_7 => exact yields_map fun _ => rfl
  all_goals rfl

theorem bitReadAa8_wellFormed (abs : BitVec 8) (o x : Byte) : YieldsWellFormed (bitReadAa8 abs o x) := by
  refine yields_ifZero ?_
  split
  case h_2 => exact yields_map fun _ => rfl
  case h_3 | h_4 | h_5 | h_6 => exact yields_byTop rfl rfl
  all_goals rfl

theorem bitWriteAa8_wellFormed (abs : BitVec 8) (o x : Byte) : YieldsWellFormed (bitWriteAa8 abs o x) := by
  refine yields_ifZero ?_
  split
  case h_4 => exact yields_byTop rfl rfl
  case h_5 | h_6 | h_7 => exact yields_map fun _ => rfl
  all_goals rfl

theorem bitReadAa16_wellFormed (abs : BitVec 16) (o x : Byte) : YieldsWellFormed (bitReadAa16 abs o x) := by
  refine yields_ifZero ?_
  split
  case h_2 => exact yields_map fun _ => rfl
  case h_3 | h_4 | h_5 | h_6 => exact yields_byTop rfl rfl
  all_goals rfl

theorem bitWriteAa16_wellFormed (abs : BitVec 16) (o x : Byte) : YieldsWellFormed (bitWriteAa16 abs o x) := by
  refine yields_ifZero ?_
  split
  case h_4 => exact yields_byTop rfl rfl
  case h_5 | h_6 | h_7 => exact yields_map fun _ => rfl
  all_goals rfl

theorem bitReadAa32_wellFormed (abs : BitVec 32) (o x : Byte) : YieldsWellFormed (bitReadAa32 abs o x) := by
  refine yields_ifZero ?_
  split
  case h_2 => exact yields_map fun _ => rfl
  case h_3 | h_4 | h_5 | h_6 => exact yields_byTop rfl rfl
  all_goals rfl

theorem bitWriteAa32_wellFormed (abs : BitVec 32) (o x : Byte) : YieldsWellFormed (bitWriteAa32 abs o x) := by
  refine yields_ifZero ?_
  split
  case h_4 => exact yields_byTop rfl rfl
  case h_5 | h_6 | h_7 => exact yields_map fun _ => rfl
  all_goals rfl

/-! ### The groups behind `01` (R111, R113) -/

theorem decode0100_wellFormed (bytes : List Byte) : YieldsWellFormed (decode0100 bytes) := by
  unfold decode0100
  split
  case h_1 => exact yields_bind fun _ => yields_byTop rfl rfl
  case h_2 =>
    refine yields_bind fun _ => ?_
    split
    case h_5 => rfl
    all_goals exact yields_map fun _ => rfl
  case h_3 => exact yields_bind fun _ => yields_unlessER7 rfl rfl rfl rfl
  case h_4 => exact yields_bind fun _ => yields_bind fun _ => yields_byTop rfl rfl
  case h_5 =>
    refine yields_bind fun _ => yields_bind fun _ => yields_ifZero ?_
    split
    case h_1 => exact yields_map fun _ => rfl
    all_goals rfl
  case h_6 => rfl

theorem decode0140_wellFormed (bytes : List Byte) : YieldsWellFormed (decode0140 bytes) := by
  unfold decode0140
  split
  case h_1 | h_3 => exact yields_ifZero (yields_byTop rfl rfl)
  case h_2 =>
    refine yields_ifZero ?_
    split
    case h_5 => rfl
    all_goals exact yields_map fun _ => rfl
  case h_4 => exact yields_bind fun _ => yields_ifZero (yields_byTop rfl rfl)
  case h_5 =>
    refine yields_bind fun _ => yields_bind fun _ => yields_ifZero ?_
    split <;> rfl
  all_goals rfl

theorem decode0141_wellFormed (bytes : List Byte) : YieldsWellFormed (decode0141 bytes) := by
  unfold decode0141
  split
  case h_5 | h_7 => exact yields_ifZero (yields_byTop rfl rfl)
  case h_6 =>
    refine yields_ifZero ?_
    split
    case h_5 => rfl
    all_goals exact yields_map fun _ => rfl
  case h_8 => exact yields_bind fun _ => yields_ifZero (yields_byTop rfl rfl)
  case h_9 =>
    refine yields_bind fun _ => yields_bind fun _ => yields_ifZero ?_
    split <;> rfl
  all_goals rfl

/-- LDM and STM of `count` registers, which name their register only where it is listed. -/
theorem decodeList_wellFormed {count : Nat} {ldm stm : RegNum → Instr} (hl : ∀ r, (ldm r).wellFormed = ldmListed count r)
    (hs : ∀ r, (stm r).wellFormed = stmListed count r) (bytes : List Byte) :
    YieldsWellFormed (decodeList count ldm stm bytes) := by
  unfold decodeList
  split
  · refine yields_bind fun r => ?_
    split
    · exact yields_ite (fun h => (hl r).trans h) fun _ => rfl
    · exact yields_ite (fun h => (hs r).trans h) fun _ => rfl
    · rfl
  · rfl

theorem decode01_wellFormed (x : Byte) (bytes : List Byte) : YieldsWellFormed (decode01 x bytes) := by
  unfold decode01
  split
  case h_1 => exact decode0100_wellFormed bytes
  case h_2 | h_3 | h_4 => exact decodeList_wellFormed (fun _ => rfl) (fun _ => rfl) bytes
  case h_5 => exact decode0140_wellFormed bytes
  case h_6 => exact decode0141_wellFormed bytes
  case h_7 =>
    split
    · exact yields_bind fun _ => yields_bind fun _ => rfl
    · rfl
  case h_10 | h_11 =>
    split
    case h_2 => exact yields_map fun _ => rfl
    all_goals rfl
  case h_12 =>
    split
    · exact yields_bind fun _ => yields_ite (fun h => h.2) fun _ => rfl
    · rfl
  case h_13 =>
    split
    case h_4 => rfl
    all_goals exact yields_bind fun _ => yields_bind fun _ => rfl
  all_goals rfl

/-! ### The tables by the first byte (R110, R111) -/

theorem decode02_wellFormed (x : Byte) : YieldsWellFormed (decode02 x) := by
  unfold decode02
  split
  case h_3 | h_4 => exact yields_map fun _ => rfl
  all_goals rfl

theorem decode03_wellFormed (x : Byte) : YieldsWellFormed (decode03 x) := by
  unfold decode03
  split
  case h_3 | h_4 => exact yields_map fun _ => rfl
  all_goals rfl

theorem decode0B_wellFormed (x : Byte) : YieldsWellFormed (decode0B x) := by
  unfold decode0B
  split
  case h_1 | h_3 | h_4 | h_5 | h_7 => exact yields_map fun _ => rfl
  all_goals rfl

theorem decode1B_wellFormed (x : Byte) : YieldsWellFormed (decode1B x) := by
  unfold decode1B
  split
  case h_1 | h_3 | h_4 | h_5 | h_7 => exact yields_map fun _ => rfl
  all_goals rfl

theorem decode10_wellFormed (x : Byte) : YieldsWellFormed (decode10 x) := by
  unfold decode10
  split
  case h_3 | h_6 | h_9 | h_12 => exact yields_map fun _ => rfl
  all_goals rfl

theorem decode11_wellFormed (x : Byte) : YieldsWellFormed (decode11 x) := by
  unfold decode11
  split
  case h_3 | h_6 | h_9 | h_12 => exact yields_map fun _ => rfl
  all_goals rfl

theorem decode12_wellFormed (x : Byte) : YieldsWellFormed (decode12 x) := by
  unfold decode12
  split
  case h_3 | h_6 | h_9 | h_12 => exact yields_map fun _ => rfl
  all_goals rfl

theorem decode13_wellFormed (x : Byte) : YieldsWellFormed (decode13 x) := by
  unfold decode13
  split
  case h_3 | h_6 | h_9 | h_12 => exact yields_map fun _ => rfl
  all_goals rfl

theorem decode17_wellFormed (x : Byte) : YieldsWellFormed (decode17 x) := by
  unfold decode17
  split
  case h_3 | h_5 | h_8 | h_10 => exact yields_map fun _ => rfl
  all_goals rfl

theorem longOrByte_wellFormed {long : RegNum → RegNum → Instr} {byte : Reg8 → Instr}
    (hl : ∀ s d, (long s d).wellFormed = true) (hb : ∀ r, (byte r).wellFormed = true) (x : Byte) :
    YieldsWellFormed (longOrByte long byte x) :=
  yields_ite (fun _ => yields_map fun d => hl _ d) fun _ => yields_ite (fun _ => hb _) fun _ => rfl

theorem decode0_wellFormed (al : BitVec 4) (x : Byte) (rest : List Byte) : YieldsWellFormed (decode0 al x rest) := by
  unfold decode0
  split
  case h_1 => exact yields_ite (fun _ => rfl) fun _ => rfl
  case h_2 => exact decode01_wellFormed x rest
  case h_3 => exact decode02_wellFormed x
  case h_4 => exact decode03_wellFormed x
  case h_11 | h_16 => exact longOrByte_wellFormed (fun _ _ => rfl) (fun _ => rfl) x
  case h_12 => exact decode0B_wellFormed x
  all_goals rfl

theorem decode1_wellFormed (al : BitVec 4) (x : Byte) : YieldsWellFormed (decode1 al x) := by
  unfold decode1
  split
  case h_1 => exact decode10_wellFormed x
  case h_2 => exact decode11_wellFormed x
  case h_3 => exact decode12_wellFormed x
  case h_4 => exact decode13_wellFormed x
  case h_8 => exact decode17_wellFormed x
  case h_11 | h_16 => exact longOrByte_wellFormed (fun _ _ => rfl) (fun _ => rfl) x
  case h_12 => exact decode1B_wellFormed x
  all_goals rfl

theorem bcc8_wellFormed (cc : BitVec 4) (d : BitVec 8) : (bcc8 cc d).wellFormed = true := by
  unfold bcc8
  split <;> rfl

theorem bcc16_wellFormed (cc : BitVec 4) (d : BitVec 16) : (bcc16 cc d).wellFormed = true := by
  unfold bcc16
  split <;> rfl

theorem decode5_wellFormed (al : BitVec 4) (x : Byte) (rest : List Byte) : YieldsWellFormed (decode5 al x rest) := by
  unfold decode5
  split
  case h_3 | h_4 | h_11 | h_15 => exact yields_map fun _ => rfl
  case h_5 | h_7 | h_8 => exact yields_ite (fun _ => rfl) fun _ => rfl
  case h_9 => exact yields_ite (fun _ => yields_map fun d => bcc16_wellFormed (hi x) d) fun _ => rfl
  case h_10 | h_13 | h_14 => exact yields_ite (fun _ => yields_map fun _ => rfl) fun _ => rfl
  all_goals rfl

theorem decode6A_wellFormed (x : Byte) (rest : List Byte) : YieldsWellFormed (decode6A x rest) := by
  unfold decode6A
  split
  case h_2 =>
    refine yields_bind fun a => ?_
    split
    · exact opWord_wellFormed (bitReadAa16_wellFormed a) _
    · exact opWord_wellFormed (bitWriteAa16_wellFormed a) _
    · rfl
  case h_4 =>
    refine yields_bind fun a => ?_
    split
    · exact opWord_wellFormed (bitReadAa32_wellFormed a) _
    · exact opWord_wellFormed (bitWriteAa32_wellFormed a) _
    · rfl
  case h_9 => rfl
  all_goals exact yields_map fun _ => rfl

theorem decode6B_wellFormed (x : Byte) (rest : List Byte) : YieldsWellFormed (decode6B x rest) := by
  unfold decode6B
  split
  case h_5 => rfl
  all_goals exact yields_map fun _ => rfl

theorem decode6_wellFormed (al : BitVec 4) (x : Byte) (rest : List Byte) : YieldsWellFormed (decode6 al x rest) := by
  unfold decode6
  split
  case h_8 | h_9 | h_10 | h_13 => exact yields_byTop rfl rfl
  case h_11 => exact decode6A_wellFormed x rest
  case h_12 => exact decode6B_wellFormed x rest
  case h_14 => exact yields_unlessER7 rfl rfl rfl rfl
  case h_15 | h_16 => exact yields_bind fun _ => yields_byTop rfl rfl
  all_goals rfl

theorem decode78_wellFormed (x : Byte) (rest : List Byte) : YieldsWellFormed (decode78 x rest) := by
  unfold decode78
  split
  case h_1 | h_2 =>
    refine yields_bind fun _ => yields_bind fun _ => yields_ifZero ?_
    split <;> rfl
  case h_3 => rfl

theorem decode79_wellFormed (x : Byte) (v : BitVec 16) : YieldsWellFormed (decode79 x v) := by
  unfold decode79
  split <;> rfl

theorem decode7A_wellFormed (x : Byte) (v : BitVec 32) : YieldsWellFormed (decode7A x v) := by
  unfold decode7A
  split
  case h_8 => rfl
  all_goals exact yields_map fun _ => rfl

theorem decode7_wellFormed (al : BitVec 4) (x : Byte) (rest : List Byte) : YieldsWellFormed (decode7 al x rest) := by
  unfold decode7
  split
  case h_1 | h_2 | h_3 | h_4 => exact yields_map fun _ => rfl
  case h_5 | h_6 | h_7 | h_8 => exact yields_byTop rfl rfl
  case h_9 => exact decode78_wellFormed x rest
  case h_10 => exact yields_bind fun v => decode79_wellFormed x v
  case h_11 => exact yields_bind fun v => decode7A_wellFormed x v
  case h_12 =>
    split
    · exact yields_ite (fun _ => rfl) fun _ => yields_ite (fun _ => rfl) fun _ => rfl
    · rfl
  case h_13 => exact yields_ite (fun _ => yields_bind fun r => opWord_wellFormed (bitReadAtERd_wellFormed r) rest) fun _ => rfl
  case h_14 => exact yields_ite (fun _ => yields_bind fun r => opWord_wellFormed (bitWriteAtERd_wellFormed r) rest) fun _ => rfl
  case h_15 => exact opWord_wellFormed (bitReadAa8_wellFormed x) rest
  case h_16 => exact opWord_wellFormed (bitWriteAa8_wellFormed x) rest

theorem decode_wellFormed (bytes : List Byte) : YieldsWellFormed (decode bytes) := by
  unfold decode
  split
  · split
    case h_1 => exact decode0_wellFormed _ _ _
    case h_2 => exact decode1_wellFormed _ _
    case h_5 => exact bcc8_wellFormed _ _
    case h_6 => exact decode5_wellFormed _ _ _
    case h_7 => exact decode6_wellFormed _ _ _
    case h_8 => exact decode7_wellFormed _ _ _
    all_goals rfl
  · rfl

/-- Settles O42: every table of the decoder answers well-formed instructions only. -/
theorem decodedInstructionsAreWellFormed : Obligations.DecodedInstructionsAreWellFormed := by
  unfold Obligations.DecodedInstructionsAreWellFormed
  intro bytes i hi
  have h := decode_wellFormed bytes
  rwa [hi] at h

end Sys2Proof
end

section
/-! SUPPORT. Reading an encoded instruction (O41): what the first bytes lead to in the maps of R110 to R113, then the rest of the
instruction, table by table. -/

namespace Sys2Proof

/-! ### Fields of more than a byte -/

@[simp] theorem drop_bytes16 (v : BitVec 16) (rest : List Byte) : (bytes16 v ++ rest).drop 2 = rest := rfl

@[simp] theorem drop_bytes32 (v : BitVec 32) (rest : List Byte) : (bytes32 v ++ rest).drop 4 = rest := rfl

/-! ### The maps by the first bytes (R110 to R113) -/

theorem decode_01 (x : Byte) (rest : List Byte) : decode (0x01#8 :: x :: rest) = decode01 x rest := rfl

theorem decode_02 (x : Byte) (rest : List Byte) : decode (0x02#8 :: x :: rest) = decode02 x := rfl

theorem decode_03 (x : Byte) (rest : List Byte) : decode (0x03#8 :: x :: rest) = decode03 x := rfl

theorem decode_0A (x : Byte) (rest : List Byte) : decode (0x0A#8 :: x :: rest) = longOrByte .addLERsERd .incBRd x := rfl

theorem decode_0B (x : Byte) (rest : List Byte) : decode (0x0B#8 :: x :: rest) = decode0B x := rfl

theorem decode_0F (x : Byte) (rest : List Byte) : decode (0x0F#8 :: x :: rest) = longOrByte .movLERsERd .daaRd x := rfl

theorem decode_10 (x : Byte) (rest : List Byte) : decode (0x10#8 :: x :: rest) = decode10 x := rfl

theorem decode_11 (x : Byte) (rest : List Byte) : decode (0x11#8 :: x :: rest) = decode11 x := rfl

theorem decode_12 (x : Byte) (rest : List Byte) : decode (0x12#8 :: x :: rest) = decode12 x := rfl

theorem decode_13 (x : Byte) (rest : List Byte) : decode (0x13#8 :: x :: rest) = decode13 x := rfl

theorem decode_17 (x : Byte) (rest : List Byte) : decode (0x17#8 :: x :: rest) = decode17 x := rfl

theorem decode_1A (x : Byte) (rest : List Byte) : decode (0x1A#8 :: x :: rest) = longOrByte .subLERsERd .decBRd x := rfl

theorem decode_1B (x : Byte) (rest : List Byte) : decode (0x1B#8 :: x :: rest) = decode1B x := rfl

theorem decode_1F (x : Byte) (rest : List Byte) : decode (0x1F#8 :: x :: rest) = longOrByte .cmpLERsERd .dasRd x := rfl

theorem decode_6A (x : Byte) (rest : List Byte) : decode (0x6A#8 :: x :: rest) = decode6A x rest := rfl

theorem decode_6B (x : Byte) (rest : List Byte) : decode (0x6B#8 :: x :: rest) = decode6B x rest := rfl

theorem decode_78 (x : Byte) (rest : List Byte) : decode (0x78#8 :: x :: rest) = decode78 x rest := rfl

theorem decode_79 (x : Byte) (rest : List Byte) : decode (0x79#8 :: x :: rest) = (take16 rest).bind (decode79 x) := rfl

theorem decode_7A (x : Byte) (rest : List Byte) : decode (0x7A#8 :: x :: rest) = (take32 rest).bind (decode7A x) := rfl

theorem decode_0100 (rest : List Byte) : decode (0x01#8 :: 0x00#8 :: rest) = decode0100 rest := rfl

theorem decode_0110 (rest : List Byte) : decode (0x01#8 :: 0x10#8 :: rest) = decodeList 2 .ldmL2 .stmL2 rest := rfl

theorem decode_0120 (rest : List Byte) : decode (0x01#8 :: 0x20#8 :: rest) = decodeList 3 .ldmL3 .stmL3 rest := rfl

theorem decode_0130 (rest : List Byte) : decode (0x01#8 :: 0x30#8 :: rest) = decodeList 4 .ldmL4 .stmL4 rest := rfl

theorem decode_0140 (rest : List Byte) : decode (0x01#8 :: 0x40#8 :: rest) = decode0140 rest := rfl

theorem decode_0141 (rest : List Byte) : decode (0x01#8 :: 0x41#8 :: rest) = decode0141 rest := rfl

/-! ### Bit operations on memory (R112): the address, then the operation word -/

theorem decode_bitReadAtERd (erd : RegNum) (o x : Byte) (rest : List Byte) :
    decode (0x7C#8 :: nib (nib0 erd) 0x0#4 :: o :: x :: rest) = bitReadAtERd erd o x := by
  simp [decode, decode7, opWord]

theorem decode_bitWriteAtERd (erd : RegNum) (o x : Byte) (rest : List Byte) :
    decode (0x7D#8 :: nib (nib0 erd) 0x0#4 :: o :: x :: rest) = bitWriteAtERd erd o x := by
  simp [decode, decode7, opWord]

theorem decode_bitReadAa8 (abs : BitVec 8) (o x : Byte) (rest : List Byte) :
    decode (0x7E#8 :: abs :: o :: x :: rest) = bitReadAa8 abs o x := rfl

theorem decode_bitWriteAa8 (abs : BitVec 8) (o x : Byte) (rest : List Byte) :
    decode (0x7F#8 :: abs :: o :: x :: rest) = bitWriteAa8 abs o x := rfl

theorem decode_bitReadAa16 (abs : BitVec 16) (o x : Byte) (rest : List Byte) :
    decode (0x6A#8 :: 0x10#8 :: (bytes16 abs ++ o :: x :: rest)) = bitReadAa16 abs o x := by
  simp [decode_6A, decode6A, opWord]

theorem decode_bitWriteAa16 (abs : BitVec 16) (o x : Byte) (rest : List Byte) :
    decode (0x6A#8 :: 0x18#8 :: (bytes16 abs ++ o :: x :: rest)) = bitWriteAa16 abs o x := by
  simp [decode_6A, decode6A, opWord]

theorem decode_bitReadAa32 (abs : BitVec 32) (o x : Byte) (rest : List Byte) :
    decode (0x6A#8 :: 0x30#8 :: (bytes32 abs ++ o :: x :: rest)) = bitReadAa32 abs o x := by
  simp [decode_6A, decode6A, opWord]

theorem decode_bitWriteAa32 (abs : BitVec 32) (o x : Byte) (rest : List Byte) :
    decode (0x6A#8 :: 0x38#8 :: (bytes32 abs ++ o :: x :: rest)) = bitWriteAa32 abs o x := by
  simp [decode_6A, decode6A, opWord]

/-! ### Every instruction -/

/-- One alternative of the case split for each table of the decoder: the first bytes lead to the table, and its row reads back the
fields that were encoded. Well-formedness counts where one encoding has two names, and where a table asks for a listed register. -/
theorem decode_encode (i : Instr) (rest : List Byte) (h : i.wellFormed = true) : decode (encode i ++ rest) = some i := by
  cases i with
  -- the first nibble, or the first byte, is the operation
  | movBImm8Rd | movBAa8Rd | movBRsAa8 | addBImm8Rd | addxImm8Rd | subxImm8Rd | cmpBImm8Rd | andBImm8Rd | orBImm8Rd
  | xorBImm8Rd =>
    show decode (nib _ _ :: _ :: _) = _
    simp [decode]
  | braD8 | brnD8 | bhiD8 | blsD8 | bccD8 | bcsD8 | bneD8 | beqD8 | bvcD8 | bvsD8 | bplD8 | bmiD8 | bgeD8 | bltD8 | bgtD8
  | bleD8 =>
    show decode (_ :: _ :: _) = _
    simp [decode, bcc8]
  | movBRsRd | movWRsRd | addBRsRd | addWRsRd | addxRsRd | nop | ldcBImm8CCR | andcImm8CCR | orcImm8CCR | xorcImm8CCR =>
    show decode (_ :: _ :: _) = _
    simp [decode, decode0]
  | subBRsRd | subWRsRd | subxRsRd | cmpBRsRd | cmpWRsRd | andBRsRd | orBRsRd | xorBRsRd =>
    show decode (_ :: _ :: _) = _
    simp [decode, decode1]
  | mulxuBRsRd | mulxuWRsERd | divxuBRsRd | divxuWRsERd | jmpAtERn | jmpMemAa8 | bsrD8 | bsrD16 | jsrAtERn | jsrMemAa8 | rts
  | rte =>
    show decode (_ :: _ :: _) = _
    simp [decode, decode5]
  | trapa =>
    show decode (_ :: _ :: _) = _
    simp [decode, decode5, trapa_field]
  | jmpAa24 abs => exact congrArg (fun a => some (Instr.jmpAa24 a)) (join24 abs)
  | jsrAa24 abs => exact congrArg (fun a => some (Instr.jsrAa24 a)) (join24 abs)
  | braD16 | brnD16 | bhiD16 | blsD16 | bccD16 | bcsD16 | bneD16 | beqD16 | bvcD16 | bvsD16 | bplD16 | bmiD16 | bgeD16
  | bltD16 | bgtD16 | bleD16 =>
    show decode (_ :: _ :: _) = _
    simp [decode, decode5, bcc16]
  | movBAtERsRd | movBD16ERsRd | movBERsIncRd | movWAtERsRd | movWD16ERsRd | movBRsAtERd | movBRsD16ERd | movBRsDecERd
  | movWRsAtERd | movWRsD16ERd | popWRn | pushWRn | andWRsRd | orWRsRd | xorWRsRd | bclrRnRd | bistImm3Rd | bnotRnRd
  | bsetRnRd | bstImm3Rd | btstRnRd =>
    show decode (_ :: _ :: _) = _
    simp [decode, decode6]
  | movWERsIncRd n | movWRsDecERd _ n =>
    have hn : n ≠ 7 := bne_iff_ne.mp h
    show decode (_ :: _ :: _) = _
    simp [decode, decode6, hn]
  | bandImm3Rd | bclrImm3Rd | biandImm3Rd | bildImm3Rd | biorImm3Rd | bixorImm3Rd | bldImm3Rd | bnotImm3Rd | borImm3Rd
  | bsetImm3Rd | btstImm3Rd | bxorImm3Rd | eepmovB | eepmovW =>
    show decode (_ :: _ :: _) = _
    simp [decode, decode7]
  -- the operation goes on in byte 2
  | addLERsERd | incBRd =>
    exact (decode_0A _ rest).trans (by simp [longOrByte])
  | movLERsERd | daaRd =>
    exact (decode_0F _ rest).trans (by simp [longOrByte])
  | subLERsERd | decBRd =>
    exact (decode_1A _ rest).trans (by simp [longOrByte])
  | cmpLERsERd | dasRd =>
    exact (decode_1F _ rest).trans (by simp [longOrByte])
  | stmacMACHERd | stmacMACLERd | stcBCCRRd | stcBEXRRd =>
    exact (decode_02 _ rest).trans (by simp [decode02])
  | ldmacERsMACH | ldmacERsMACL | ldcBRsCCR | ldcBRsEXR =>
    exact (decode_03 _ rest).trans (by simp [decode03])
  | addsBy1ERd | addsBy2ERd | addsBy4ERd | incWBy1Rd | incWBy2Rd | incLBy1ERd | incLBy2ERd =>
    exact (decode_0B _ rest).trans (by simp [decode0B])
  | shalBRd | shalBBy2Rd | shalWRd | shalWBy2Rd | shalLERd | shalLBy2ERd | shllBRd | shllBBy2Rd | shllWRd | shllWBy2Rd
  | shllLERd | shllLBy2ERd =>
    exact (decode_10 _ rest).trans (by simp [decode10])
  | sharBRd | sharBBy2Rd | sharWRd | sharWBy2Rd | sharLERd | sharLBy2ERd | shlrBRd | shlrBBy2Rd | shlrWRd | shlrWBy2Rd
  | shlrLERd | shlrLBy2ERd =>
    exact (decode_11 _ rest).trans (by simp [decode11])
  | rotlBRd | rotlBBy2Rd | rotlWRd | rotlWBy2Rd | rotlLERd | rotlLBy2ERd | rotxlBRd | rotxlBBy2Rd | rotxlWRd | rotxlWBy2Rd
  | rotxlLERd | rotxlLBy2ERd =>
    exact (decode_12 _ rest).trans (by simp [decode12])
  | rotrBRd | rotrBBy2Rd | rotrWRd | rotrWBy2Rd | rotrLERd | rotrLBy2ERd | rotxrBRd | rotxrBBy2Rd | rotxrWRd | rotxrWBy2Rd
  | rotxrLERd | rotxrLBy2ERd =>
    exact (decode_13 _ rest).trans (by simp [decode13])
  | negBRd | negWRd | negLERd | extuWRd | extuLERd | extsWRd | extsLERd | notBRd | notWRd | notLERd =>
    exact (decode_17 _ rest).trans (by simp [decode17])
  | subsBy1ERd | subsBy2ERd | subsBy4ERd | decWBy1Rd | decWBy2Rd | decLBy1ERd | decLBy2ERd =>
    exact (decode_1B _ rest).trans (by simp [decode1B])
  | movBAa16Rd | movBAa32Rd | movBRsAa16 | movBRsAa32 | movfpeAa16Rd | movtpeRsAa16 =>
    exact (decode_6A _ _).trans (by simp [decode6A])
  | movWAa16Rd | movWAa32Rd | movWRsAa16 | movWRsAa32 =>
    exact (decode_6B _ _).trans (by simp [decode6B])
  | movBD32ERsRd | movWD32ERsRd | movBRsD32ERd | movWRsD32ERd =>
    exact (decode_78 _ _).trans (by simp [decode78])
  | movWImm16Rd | addWImm16Rd | subWImm16Rd | cmpWImm16Rd | andWImm16Rd | orWImm16Rd | xorWImm16Rd =>
    exact (decode_79 _ _).trans (by simp [decode79])
  | movLImm32ERd | addLImm32ERd | subLImm32ERd | cmpLImm32ERd | andLImm32ERd | orLImm32ERd | xorLImm32ERd =>
    exact (decode_7A _ _).trans (by simp [decode7A])
  -- the operation stands behind `01`
  | mulxsBRsRd | mulxsWRsERd | divxsBRsRd | divxsWRsERd | macERnIncERmInc | clrmac | andLERsERd | orLERsERd | xorLERsERd
  | sleep =>
    exact (decode_01 _ _).trans (by simp [decode01])
  | tasAtERd n =>
    have hn : tasRegister n = true := h
    exact (decode_01 _ _).trans (by simp [decode01, hn])
  | movLAtERsERd | movLD16ERsERd | movLD32ERsERd | movLAa16ERd | movLAa32ERd | movLERsAtERd | movLERsD16ERd | movLERsD32ERd
  | movLERsAa16 | movLERsAa32 | popLERn | pushLERn =>
    exact (decode_0100 _).trans (by simp [decode0100])
  | movLERsIncERd n | movLERsDecERd _ n =>
    have hn : n ≠ 7 := bne_iff_ne.mp h
    exact (decode_0100 _).trans (by simp [decode0100, hn])
  | ldmL2 rn =>
    have hl : ldmListed 2 rn = true := h
    exact (decode_0110 _).trans (by simp [decodeList, hl])
  | stmL2 rn =>
    have hl : stmListed 2 rn = true := h
    exact (decode_0110 _).trans (by simp [decodeList, hl])
  | ldmL3 rn =>
    have hl : ldmListed 3 rn = true := h
    exact (decode_0120 _).trans (by simp [decodeList, hl])
  | stmL3 rn =>
    have hl : stmListed 3 rn = true := h
    exact (decode_0120 _).trans (by simp [decodeList, hl])
  | ldmL4 rn =>
    have hl : ldmListed 4 rn = true := h
    exact (decode_0130 _).trans (by simp [decodeList, hl])
  | stmL4 rn =>
    have hl : stmListed 4 rn = true := h
    exact (decode_0130 _).trans (by simp [decodeList, hl])
  | ldcWAtERsCCR | ldcWD16ERsCCR | ldcWD32ERsCCR | ldcWERsIncCCR | ldcWAa16CCR | ldcWAa32CCR | stcWCCRAtERd | stcWCCRD16ERd
  | stcWCCRD32ERd | stcWCCRDecERd | stcWCCRAa16 | stcWCCRAa32 =>
    exact (decode_0140 _).trans (by simp [decode0140])
  | ldcBImm8EXR | ldcWAtERsEXR | ldcWD16ERsEXR | ldcWD32ERsEXR | ldcWERsIncEXR | ldcWAa16EXR | ldcWAa32EXR | stcWEXRAtERd
  | stcWEXRD16ERd | stcWEXRD32ERd | stcWEXRDecERd | stcWEXRAa16 | stcWEXRAa32 | andcImm8EXR | orcImm8EXR | xorcImm8EXR =>
    exact (decode_0141 _).trans (by simp [decode0141])
  -- bit operations on memory
  | bandImm3AtERd | biandImm3AtERd | bildImm3AtERd | biorImm3AtERd | bixorImm3AtERd | bldImm3AtERd | borImm3AtERd
  | btstImm3AtERd | btstRnAtERd | bxorImm3AtERd =>
    exact (decode_bitReadAtERd _ _ _ rest).trans (by simp [bitReadAtERd])
  | bclrImm3AtERd | bclrRnAtERd | bistImm3AtERd | bnotImm3AtERd | bnotRnAtERd | bsetImm3AtERd | bsetRnAtERd | bstImm3AtERd =>
    exact (decode_bitWriteAtERd _ _ _ rest).trans (by simp [bitWriteAtERd])
  | bandImm3Aa8 | biandImm3Aa8 | bildImm3Aa8 | biorImm3Aa8 | bixorImm3Aa8 | bldImm3Aa8 | borImm3Aa8 | btstImm3Aa8
  | btstRnAa8 | bxorImm3Aa8 =>
    exact (decode_bitReadAa8 _ _ _ rest).trans (by simp [bitReadAa8])
  | bclrImm3Aa8 | bclrRnAa8 | bistImm3Aa8 | bnotImm3Aa8 | bnotRnAa8 | bsetImm3Aa8 | bsetRnAa8 | bstImm3Aa8 =>
    exact (decode_bitWriteAa8 _ _ _ rest).trans (by simp [bitWriteAa8])
  | bandImm3Aa16 | biandImm3Aa16 | bildImm3Aa16 | biorImm3Aa16 | bixorImm3Aa16 | bldImm3Aa16 | borImm3Aa16 | btstImm3Aa16
  | btstRnAa16 | bxorImm3Aa16 =>
    exact (decode_bitReadAa16 _ _ _ rest).trans (by simp [bitReadAa16])
  | bclrImm3Aa16 | bclrRnAa16 | bistImm3Aa16 | bnotImm3Aa16 | bnotRnAa16 | bsetImm3Aa16 | bsetRnAa16 | bstImm3Aa16 =>
    exact (decode_bitWriteAa16 _ _ _ rest).trans (by simp [bitWriteAa16])
  | bandImm3Aa32 | biandImm3Aa32 | bildImm3Aa32 | biorImm3Aa32 | bixorImm3Aa32 | bldImm3Aa32 | borImm3Aa32 | btstImm3Aa32
  | btstRnAa32 | bxorImm3Aa32 =>
    exact (decode_bitReadAa32 _ _ _ rest).trans (by simp [bitReadAa32])
  | bclrImm3Aa32 | bclrRnAa32 | bistImm3Aa32 | bnotImm3Aa32 | bnotRnAa32 | bsetImm3Aa32 | bsetRnAa32 | bstImm3Aa32 =>
    exact (decode_bitWriteAa32 _ _ _ rest).trans (by simp [bitWriteAa32])

/-- Settles O41, by the case split over the instructions. -/
theorem decodeReadsEncodedInstruction : Obligations.DecodeReadsEncodedInstruction := decode_encode

end Sys2Proof
end

section
/-! SUPPORT. Data transfer: MOV, POP, PUSH, MOVFPE and MOVTPE (O1, O2, O3) by the three shapes of a move, then the register lists
of LDM and STM (O4, O5, R189, R190) by their loops in closed form. -/

namespace Sys2Proof.Machine

/-! ### MOV, POP, PUSH, MOVFPE and MOVTPE -/

/-- A move into a register, seen as the outcome of an instruction. -/
theorem transfers_moveInto {w : Nat} (len : BitVec 24) (rd : Reg w) (v : BitVec w) (s : State) :
    Transfers len rd v s (.next (moveInto len rd v s)) := ⟨_, rfl, moveInto_spec len rd v s⟩

/-- Settles O1: each is a move into its register, of a register's value or of the immediate. -/
theorem movRegisterSetsDestinationAndFlags : Obligations.MovRegisterSetsDestinationAndFlags := by
  unfold Obligations.MovRegisterSetsDestinationAndFlags
  exact ⟨fun rs rd s => transfers_moveInto 2 (.b rd) (getReg8 s rs) s,
    fun rs rd s => transfers_moveInto 2 (.w rd) (getReg16 s rs) s, fun ers erd s => transfers_moveInto 2 (.l erd) (getER s ers) s,
    fun imm rd => transfers_moveInto 2 (.b rd) imm, fun imm rd => transfers_moveInto 4 (.w rd) imm,
    fun imm erd => transfers_moveInto 6 (.l erd) imm⟩

/-- Settles O2: each is a load of its size through its addressing mode, POP's being @ER7+: the bytes, the words, the longwords,
then POP and MOVFPE. -/
theorem loadsSetDestinationFromMemory : Obligations.LoadsSetDestinationFromMemory := by
  unfold Obligations.LoadsSetDestinationFromMemory
  exact ⟨fun ers rd => moveLoad_spec 2 (.ind ers) (.b rd), fun ers disp rd => moveLoad_spec 4 (.disp16 ers disp) (.b rd),
    fun ers disp rd => moveLoad_spec 8 (.disp32 ers disp) (.b rd), fun ers rd => moveLoad_spec 2 (.postInc ers) (.b rd),
    fun abs rd => moveLoad_spec 2 (.abs8 abs) (.b rd), fun abs rd => moveLoad_spec 4 (.abs16 abs) (.b rd),
    fun abs rd => moveLoad_spec 6 (.abs32 abs) (.b rd), fun ers rd => moveLoad_spec 2 (.ind ers) (.w rd),
    fun ers disp rd => moveLoad_spec 4 (.disp16 ers disp) (.w rd),
    fun ers disp rd => moveLoad_spec 8 (.disp32 ers disp) (.w rd), fun ers rd => moveLoad_spec 2 (.postInc ers) (.w rd),
    fun abs rd => moveLoad_spec 4 (.abs16 abs) (.w rd), fun abs rd => moveLoad_spec 6 (.abs32 abs) (.w rd),
    fun ers erd => moveLoad_spec 4 (.ind ers) (.l erd), fun ers disp erd => moveLoad_spec 6 (.disp16 ers disp) (.l erd),
    fun ers disp erd => moveLoad_spec 10 (.disp32 ers disp) (.l erd), fun ers erd => moveLoad_spec 4 (.postInc ers) (.l erd),
    fun abs erd => moveLoad_spec 6 (.abs16 abs) (.l erd), fun abs erd => moveLoad_spec 8 (.abs32 abs) (.l erd),
    fun rn => moveLoad_spec 2 (.postInc 7) (.w rn), fun ern => moveLoad_spec 4 (.postInc 7) (.l ern),
    fun abs rd => moveLoad_spec 4 (.abs16 abs) (.b rd)⟩

/-- Settles O3: each is a store of its size through its addressing mode, PUSH's being @-ER7, in the order of O2. -/
theorem storesWriteRegisterToMemory : Obligations.StoresWriteRegisterToMemory := by
  unfold Obligations.StoresWriteRegisterToMemory
  exact ⟨fun rs erd => moveStore_spec 2 (.b rs) (.ind erd), fun rs erd disp => moveStore_spec 4 (.b rs) (.disp16 erd disp),
    fun rs erd disp => moveStore_spec 8 (.b rs) (.disp32 erd disp), fun rs erd => moveStore_spec 2 (.b rs) (.preDec erd),
    fun rs abs => moveStore_spec 2 (.b rs) (.abs8 abs), fun rs abs => moveStore_spec 4 (.b rs) (.abs16 abs),
    fun rs abs => moveStore_spec 6 (.b rs) (.abs32 abs), fun rs erd => moveStore_spec 2 (.w rs) (.ind erd),
    fun rs erd disp => moveStore_spec 4 (.w rs) (.disp16 erd disp),
    fun rs erd disp => moveStore_spec 8 (.w rs) (.disp32 erd disp), fun rs erd => moveStore_spec 2 (.w rs) (.preDec erd),
    fun rs abs => moveStore_spec 4 (.w rs) (.abs16 abs), fun rs abs => moveStore_spec 6 (.w rs) (.abs32 abs),
    fun ers erd => moveStore_spec 4 (.l ers) (.ind erd), fun ers erd disp => moveStore_spec 6 (.l ers) (.disp16 erd disp),
    fun ers erd disp => moveStore_spec 10 (.l ers) (.disp32 erd disp), fun ers erd => moveStore_spec 4 (.l ers) (.preDec erd),
    fun ers abs => moveStore_spec 6 (.l ers) (.abs16 abs), fun ers abs => moveStore_spec 8 (.l ers) (.abs32 abs),
    fun rn => moveStore_spec 2 (.w rn) (.preDec 7), fun ern => moveStore_spec 4 (.l ern) (.preDec 7),
    fun rs abs => moveStore_spec 4 (.b rs) (.abs16 abs)⟩

/-! ### Register lists -/

/-- LDM and STM test their register (R189, R190) and complete where it is listed. -/
theorem completes_of_listed {listed : Bool} (h : listed = true) {t : State} {P : State → Prop} (ht : P t) :
    Completes (if listed then .next t else .refused .undefinedEncoding) P := ⟨t, if_pos h, ht⟩

/-- `Untouched` does not speak of the general registers, PC and CCR. -/
theorem Untouched.of_registers {s t : State} (h : Untouched s t) (er : Vector Long 8) (pc : BitVec 24) (ccr : Ccr) :
    Untouched s { t with er := er, pc := pc, ccr := ccr } :=
  ⟨h.cfg, h.env, h.exr, h.mach, h.macl, h.nMult, h.zMult, h.vMult, h.procState, h.inhibit, h.noTrace, h.stale, h.writes,
    h.draws⟩

/-- Of the count of free values it says only that it is the same. -/
theorem Untouched.of_draws {s t : State} (h : Untouched s t) (draws : Nat) :
    Untouched { s with draws := draws } { t with draws := draws } :=
  ⟨h.cfg, h.env, h.exr, h.mach, h.macl, h.nMult, h.zMult, h.vMult, h.procState, h.inhibit, h.noTrace, h.stale, h.writes, rfl⟩

/-- LDM's loads, after which ER7 holds `v`: any value when ER7 is in the list, and just then one free value has been drawn (R189,
D30). -/
theorem loadsList_loadRegs {count : Nat} (hcount : count ≤ 8) {highest : RegNum} {s : State} {v : Long} {draws : Nat}
    (hv : highest ≠ 7 → v = getER s 7 + 4 * BitVec.ofNat 32 count)
    (hdraws : draws = if highest = 7 then s.draws + 1 else s.draws) :
    LoadsList count highest s
      (advance 4 (setER { loadRegs count highest (getER s 7) s with draws := draws } 7 v)) := by
  obtain ⟨hbus, hccr, hpc, hrest⟩ := loadRegs_rest count highest (getER s 7) s
  obtain ⟨hlisted, hothers⟩ := loadRegs_spec count hcount highest (getER s 7) s
  have huntouched := (busOnly_beforeCycles (2 * count) s).untouched_of hrest hbus
  exact {
    loaded := fun j hj h7 => (getER_setER_ne _ v h7).trans (hlisted j hj h7)
    others := fun m h7 hm => (getER_setER_ne _ v h7).trans (hothers m (.inr hm))
    sp := fun h7 => (getER_setER_same _ 7 v).trans (hv h7)
    ccr := hccr
    pc := by simp [Advanced, nextPc, advance, hpc, hbus.cfg]
    memory := fun k => by rw [advance_mem, setER_mem, hbus.mem]
    rest := hdraws ▸ (huntouched.of_draws draws).of_registers _ _ _ }

theorem loadList_spec {count : Nat} (hcount : count ≤ 8) (highest : RegNum) (s : State) :
    LoadsList count highest s (loadList count highest s) := by
  obtain ⟨-, -, -, hrest⟩ := loadRegs_rest count highest (getER s 7) s
  have hdraws : (loadRegs count highest (getER s 7) s).draws = s.draws := hrest.untouched.draws
  unfold loadList
  split
  case isTrue h =>
    exact loadsList_loadRegs hcount (fun h7 => absurd h h7) ((congrArg (· + 1) hdraws).trans (if_pos h).symm)
  case isFalse h =>
    exact loadsList_loadRegs hcount (fun _ => rfl) (hdraws.trans (if_neg h).symm)

/-- Settles O4: a list that the encoding admits is loaded, and none has more than eight registers. -/
theorem ldmLoadsListedRegisters : Obligations.LdmLoadsListedRegisters := by
  unfold Obligations.LdmLoadsListedRegisters
  exact ⟨fun rn s h => completes_of_listed h (loadList_spec (by decide) rn s),
    fun rn s h => completes_of_listed h (loadList_spec (by decide) rn s),
    fun rn s h => completes_of_listed h (loadList_spec (by decide) rn s)⟩

/-- STM's loop leaves its slots stored and ER7 at the lowest one, then PC moves on. -/
theorem storeList_spec (count : Nat) (lowest : RegNum) (s : State) :
    StoresList count lowest s (storeList count lowest s) := by
  obtain ⟨hccr, hpc, hrest⟩ := storeRegs_rest count lowest s
  obtain ⟨hsp, hothers, hbus⟩ := storeRegs_spec count lowest s
  have hslots := stmStores_rest count lowest s
  exact {
    stored := hbus.mem
    memory := fun k hk => (congrArg (readByte · k) hbus.mem).trans (stmStores_agreeAt count lowest s hk).byte
    sp := hsp
    others := hothers
    ccr := hccr
    pc := by simp [Advanced, nextPc, storeList, advance, hpc, hrest.untouched.cfg]
    rest := (hslots.untouched_of hrest hbus).of_registers _ _ _ }

/-- Settles O5: a list that the encoding admits is stored. -/
theorem stmStoresListedRegisters : Obligations.StmStoresListedRegisters := by
  unfold Obligations.StmStoresListedRegisters
  exact ⟨fun rn s h => completes_of_listed h (storeList_spec 2 rn s),
    fun rn s h => completes_of_listed h (storeList_spec 3 rn s),
    fun rn s h => completes_of_listed h (storeList_spec 4 rn s)⟩

end Sys2Proof.Machine
end

section
/-! SUPPORT. 41_arithmetic: ADD, ADDX, SUB, SUBX, CMP, NEG, INC, DEC, ADDS and SUBS (O6 to O11) by their shape and the law of
their flags, then DAA and DAS (O12) by what their tables list (R200 to R245). -/

namespace Sys2Proof.Machine

/-! ### Widths -/

/-- The laws of flags speak of words in which bit `w - 5` exists; every register is such a word. -/
theorem Reg.five_le_width {w : Nat} (rd : Reg w) : 5 ≤ w := by
  cases rd <;> decide

/-- What INC and DEC count by is small against the signed range. -/
theorem Reg.lt_half_of_le_two {w k : Nat} (rd : Reg w) (hk : k ≤ 2) : k < 2 ^ (w - 1) := by
  have hw := rd.five_le_width
  calc k < 2 ^ 2 := Nat.lt_succ_of_le (hk.trans (by decide))
    _ ≤ 2 ^ (w - 1) := Nat.pow_le_pow_right (by decide) (by omega)

/-! ### Add, subtract and compare (R203 to R229, R243 to R245) -/

theorem adds_alterReg {w : Nat} (len : BitVec 24) (rd : Reg w) (x : BitVec w) (s : State) :
    Adds len rd x s (.next (alterReg len rd (addOp x) s)) := alters_of (addOp_eq rd.five_le_width x _ _)

theorem subtracts_alterReg {w : Nat} (len : BitVec 24) (rd : Reg w) (x : BitVec w) (s : State) :
    Subtracts len rd x s (.next (alterReg len rd (subOp x) s)) := alters_of (subOp_eq rd.five_le_width x _ _)

theorem compares_testReg {w : Nat} (len : BitVec 24) (rd : Reg w) (x : BitVec w) (s : State) :
    Compares len rd x s (.next (testReg len rd (cmpFlags x) s)) :=
  ⟨_, rfl, cmpFlags_eq rd.five_le_width x (rd.get s) s.ccr ▸ testReg_spec len rd (cmpFlags x) s⟩

/-- Settles O6: each adds a register's value or the immediate to its register. -/
theorem addSetsSumAndCarryFlags : Obligations.AddSetsSumAndCarryFlags := by
  unfold Obligations.AddSetsSumAndCarryFlags
  exact ⟨fun imm rd => adds_alterReg 2 (.b rd) imm, fun rs rd s => adds_alterReg 2 (.b rd) (getReg8 s rs) s,
    fun imm rd => adds_alterReg 4 (.w rd) imm, fun rs rd s => adds_alterReg 2 (.w rd) (getReg16 s rs) s,
    fun imm erd => adds_alterReg 6 (.l erd) imm, fun ers erd s => adds_alterReg 2 (.l erd) (getER s ers) s⟩

/-- Settles O7: the laws of ADDX and SUBX at the width of a byte, with a register's value or the immediate. -/
theorem addxSubxAccumulateZero : Obligations.AddxSubxAccumulateZero := by
  unfold Obligations.AddxSubxAccumulateZero
  exact ⟨fun imm rd s => alters_of (rd := .b rd) (addxOp_eq (by decide) imm _ _),
    fun rs rd s => alters_of (rd := .b rd) (addxOp_eq (by decide) (getReg8 s rs) _ _),
    fun imm rd s => alters_of (rd := .b rd) (subxOp_eq (by decide) imm _ _),
    fun rs rd s => alters_of (rd := .b rd) (subxOp_eq (by decide) (getReg8 s rs) _ _)⟩

/-- Settles O8: SUB as ADD in O6; NEG by the law that it is the subtraction from 0. -/
theorem subAndNegSetDifferenceAndBorrowFlags : Obligations.SubAndNegSetDifferenceAndBorrowFlags := by
  unfold Obligations.SubAndNegSetDifferenceAndBorrowFlags
  exact ⟨fun rs rd s => subtracts_alterReg 2 (.b rd) (getReg8 s rs) s, fun imm rd => subtracts_alterReg 4 (.w rd) imm,
    fun rs rd s => subtracts_alterReg 2 (.w rd) (getReg16 s rs) s, fun imm erd => subtracts_alterReg 6 (.l erd) imm,
    fun ers erd s => subtracts_alterReg 2 (.l erd) (getER s ers) s,
    fun rd s => alters_of (rd := .b rd) (negOp_eq (by decide) _ _),
    fun rd s => alters_of (rd := .w rd) (negOp_eq (by decide) _ _),
    fun erd s => alters_of (rd := .l erd) (negOp_eq (by decide) _ _)⟩

/-- Settles O9: each examines its register with the flags of the subtraction. -/
theorem cmpSetsFlagsOnly : Obligations.CmpSetsFlagsOnly := by
  unfold Obligations.CmpSetsFlagsOnly
  exact ⟨fun imm rd => compares_testReg 2 (.b rd) imm, fun rs rd s => compares_testReg 2 (.b rd) (getReg8 s rs) s,
    fun imm rd => compares_testReg 4 (.w rd) imm, fun rs rd s => compares_testReg 2 (.w rd) (getReg16 s rs) s,
    fun imm erd => compares_testReg 6 (.l erd) imm, fun ers erd s => compares_testReg 2 (.l erd) (getER s ers) s⟩

/-! ### Count up and down (R209 to R211, R219 to R221, R230 to R242) -/

/-- A write to ERn alone keeps CCR. -/
theorem alters_setER (len : BitVec 24) (n : RegNum) (v : Long) (s : State) :
    Alters len (.l n) v s.ccr s (.next (advance len (setER s n v))) := ⟨_, rfl, setsRegister_keep len (.l n) v s⟩

/-- Settles O10: each writes its register and no flag. -/
theorem addsSubsKeepFlags : Obligations.AddsSubsKeepFlags := by
  unfold Obligations.AddsSubsKeepFlags
  exact ⟨fun erd s => alters_setER 2 erd (getER s erd + 1) s, fun erd s => alters_setER 2 erd (getER s erd + 2) s,
    fun erd s => alters_setER 2 erd (getER s erd + 4) s, fun erd s => alters_setER 2 erd (getER s erd - 1) s,
    fun erd s => alters_setER 2 erd (getER s erd - 2) s, fun erd s => alters_setER 2 erd (getER s erd - 4) s⟩

theorem counts_incOp {w : Nat} (len : BitVec 24) (rd : Reg w) {k : Nat} (hk : k ≤ 2) (s : State) :
    Counts len rd k s (.next (alterReg len rd (incOp (BitVec.ofNat w k)) s)) :=
  alters_of (incOp_eq (by have := rd.five_le_width; omega) k (rd.lt_half_of_le_two hk) _ _)

theorem counts_decOp {w : Nat} (len : BitVec 24) (rd : Reg w) {k : Nat} (hk : k ≤ 2) (s : State) :
    Counts len rd (-(k : Int)) s (.next (alterReg len rd (decOp (BitVec.ofNat w k)) s)) :=
  alters_of (decOp_eq (by have := rd.five_le_width; omega) k (rd.lt_half_of_le_two hk) _ _)

/-- Settles O11: INC adds the number, DEC adds its negative. -/
theorem incDecSetSignedOverflow : Obligations.IncDecSetSignedOverflow := by
  unfold Obligations.IncDecSetSignedOverflow
  have hone : 1 ≤ 2 := by decide
  have htwo : 2 ≤ 2 := le_rfl
  exact ⟨fun rd => counts_incOp 2 (.b rd) hone, fun rd => counts_incOp 2 (.w rd) hone,
    fun rd => counts_incOp 2 (.w rd) htwo, fun erd => counts_incOp 2 (.l erd) hone,
    fun erd => counts_incOp 2 (.l erd) htwo, fun rd => counts_decOp 2 (.b rd) hone,
    fun rd => counts_decOp 2 (.w rd) hone, fun rd => counts_decOp 2 (.w rd) htwo,
    fun erd => counts_decOp 2 (.l erd) hone, fun erd => counts_decOp 2 (.l erd) htwo⟩

/-! ### Decimal adjust (R234, R235) -/

/-- A digit has 4 bits, so a row that goes up to 15 has no upper bound. -/
theorem digits_le (d : Byte) : d.toNat / 16 ≤ 15 ∧ d.toNat % 16 ≤ 15 := by omega

/-- The bounds of each row of R234 decide the tests of DAA, and the branch they lead to is the row's. -/
theorem daaRow_of_covers : ∀ r ∈ daaTable, ∀ (d : Byte) (c : Ccr), r.Covers d c →
    daaRow c.c c.h (d.toNat / 16) (d.toNat % 16) = some (r.added, r.carry) := by
  intro r hr d c ⟨hc, hh, hupper, hupper', hlower, hlower'⟩
  rw [hc, hh]
  clear hc hh
  simp only [daaTable, List.mem_cons, List.not_mem_nil, or_false] at hr
  rcases hr with rfl | rfl | rfl | rfl | rfl | rfl | rfl | rfl | rfl
  all_goals
    simp only [daaRow]
    grind

/-- With C and H clear the rows of R234 leave out no digits; else DAA answers `none` only where a digit is out of bounds. -/
theorem daaRow_of_uncovered (d : Byte) (c : Ccr) (h : ∀ r ∈ daaTable, ¬ r.Covers d c) :
    daaRow c.c c.h (d.toNat / 16) (d.toNat % 16) = none := by
  obtain ⟨hu, hl⟩ := digits_le d
  simp only [daaTable, List.forall_mem_cons] at h
  obtain ⟨h1, h2, h3, h4, h5, h6, h7, h8, h9, -⟩ := h
  match hc : c.c, hh : c.h with
  | false, false =>
    exfalso
    rcases Nat.lt_or_ge 9 (d.toNat % 16) with hl' | hl'
    · rcases Nat.lt_or_ge 8 (d.toNat / 16) with hu' | hu'
      · exact h5 ⟨hc, hh, hu', hu, hl', hl⟩
      · exact h2 ⟨hc, hh, Nat.zero_le _, hu', hl', hl⟩
    · rcases Nat.lt_or_ge 9 (d.toNat / 16) with hu' | hu'
      · exact h4 ⟨hc, hh, hu', hu, Nat.zero_le _, hl'⟩
      · exact h1 ⟨hc, hh, Nat.zero_le _, hu', Nat.zero_le _, hl'⟩
  | false, true =>
    refine if_neg fun hl' => ?_
    rcases Nat.lt_or_ge 9 (d.toNat / 16) with hu' | hu'
    · exact h6 ⟨hc, hh, hu', hu, Nat.zero_le _, hl'⟩
    · exact h3 ⟨hc, hh, Nat.zero_le _, hu', Nat.zero_le _, hl'⟩
  | true, false =>
    refine if_neg fun hu' => ?_
    rcases Nat.lt_or_ge 9 (d.toNat % 16) with hl' | hl'
    · exact h8 ⟨hc, hh, Nat.zero_le _, hu', hl', hl⟩
    · exact h7 ⟨hc, hh, Nat.zero_le _, hu', Nat.zero_le _, hl'⟩
  | true, true => exact if_neg fun ⟨hu', hl'⟩ => h9 ⟨hc, hh, Nat.zero_le _, hu', Nat.zero_le _, hl'⟩

/-- DAS has one row of R235 for each value of C and H, and tests its bounds. -/
theorem dasRow_of_covers : ∀ r ∈ dasTable, ∀ (d : Byte) (c : Ccr), r.Covers d c →
    dasRow c.c c.h (d.toNat / 16) (d.toNat % 16) = some (r.added, r.carry) := by
  intro r hr d c ⟨hc, hh, hupper, hupper', hlower, hlower'⟩
  rw [hc, hh]
  simp only [dasTable, List.mem_cons, List.not_mem_nil, or_false] at hr
  rcases hr with rfl | rfl | rfl | rfl
  · exact if_pos ⟨hupper', hlower'⟩
  · exact if_pos ⟨hupper', hlower⟩
  · exact if_pos ⟨hupper, hlower'⟩
  · exact if_pos ⟨hupper, hlower⟩

theorem dasRow_of_uncovered (d : Byte) (c : Ccr) (h : ∀ r ∈ dasTable, ¬ r.Covers d c) :
    dasRow c.c c.h (d.toNat / 16) (d.toNat % 16) = none := by
  obtain ⟨hu, hl⟩ := digits_le d
  simp only [dasTable, List.forall_mem_cons] at h
  obtain ⟨h1, h2, h3, h4, -⟩ := h
  match hc : c.c, hh : c.h with
  | false, false => exact if_neg fun ⟨hu', hl'⟩ => h1 ⟨hc, hh, Nat.zero_le _, hu', Nat.zero_le _, hl'⟩
  | false, true => exact if_neg fun ⟨hu', hl'⟩ => h2 ⟨hc, hh, Nat.zero_le _, hu', hl', hl⟩
  | true, false => exact if_neg fun ⟨hu', hl'⟩ => h3 ⟨hc, hh, hu', hu, Nat.zero_le _, hl'⟩
  | true, true => exact if_neg fun ⟨hu', hl'⟩ => h4 ⟨hc, hh, hu', hu, hl', hl⟩

/-- Settles O12: each shape of decimal adjust with its own table. -/
theorem decimalAdjustFollowsTables : Obligations.DecimalAdjustFollowsTables := by
  unfold Obligations.DecimalAdjustFollowsTables
  exact ⟨fun rd s => decimalAdjust_spec daaTable daaRow rd s daaRow_of_covers daaRow_of_uncovered,
    fun rd s => decimalAdjust_spec dasTable dasRow rd s dasRow_of_covers dasRow_of_uncovered⟩

end Sys2Proof.Machine
end

section
/-! SUPPORT. 42_muldiv_ext_tas_mac: MULXU, MULXS, DIVXU, DIVXS, EXTU and EXTS (O13, O14, O15) by the law of their result, TAS
(O16) by that of a byte store, then MAC and the moves of the multiply-accumulate register (O17, O18; R261 to R285). -/

namespace Sys2Proof.Machine

/-! ### Multiply (R261 to R264) -/

/-- MULXU writes the register and no flag. -/
theorem alters_mulUnsigned {w n : Nat} (len : BitVec 24) (rd : Reg n) (a b : BitVec w) (s : State) :
    Alters len rd (BitVec.ofNat n (a.toNat * b.toNat)) s.ccr s (.next (advance len (rd.put (mulUnsigned n a b) s))) :=
  ⟨_, rfl, mulUnsigned_eq a b ▸ setsRegister_keep len rd _ s⟩

theorem alters_mulSigned {w n : Nat} (h : w ≤ n) (len : BitVec 24) (rd : Reg n) (a b : BitVec w) (s : State) :
    let v := BitVec.ofInt n (a.toInt * b.toInt)
    Alters len rd v { s.ccr with n := decide (v.toInt < 0), z := decide (v.toNat = 0) } s
      (.next (putProduct len rd (mulSigned n a b) s)) :=
  ⟨_, rfl, mulSigned_eq h a b ▸ putProduct_spec len rd _ s⟩

/-- Settles O13: the products are exact at twice the width. -/
theorem multiplySetsExactProduct : Obligations.MultiplySetsExactProduct := by
  unfold Obligations.MultiplySetsExactProduct
  exact ⟨fun rs rd s => alters_mulUnsigned 2 (.w rd) (getReg8 s rs) _ s,
    fun rs erd s => alters_mulUnsigned 2 (.l erd) (getReg16 s rs) _ s,
    fun rs rd s => alters_mulSigned (by decide) 4 (.w rd) (getReg8 s rs) _ s,
    fun rs erd s => alters_mulSigned (by decide) 4 (.l erd) (getReg16 s rs) _ s⟩

/-! ### Divide (R265 to R269) -/

/-- DIVXU: the model's test is the negation of "the divisor is not 0 and the quotient fits" (R265). -/
theorem divides_divUnsigned {w : Nat} (len : BitVec 24) (rd : Reg (w + w)) (d : BitVec (w + w)) (v : BitVec w) (s : State) :
    Divides len rd (v.toNat ≠ 0 ∧ d.toNat / v.toNat < 2 ^ w)
      (BitVec.ofNat w (d.toNat % v.toNat) ++ BitVec.ofNat w (d.toNat / v.toNat))
      { s.ccr with n := decide (v.toInt < 0), z := decide (v.toNat = 0) } s
      (.next (putQuotient len rd (divUnsigned d v) (divUnsignedFlags d v s.ccr) s)) := by
  rw [divUnsignedFlags, setNZ_eq, divUnsigned, remQuot_eq]
  have hzero : v = 0#w ↔ v.toNat = 0 := BitVec.toNat_inj.symm.trans (by rw [BitVec.toNat_zero])
  have hinvalid : (v = 0#w ∨ 2 ^ w ≤ d.toNat / v.toNat) ↔ ¬ (v.toNat ≠ 0 ∧ d.toNat / v.toNat < 2 ^ w) := by
    rw [hzero, not_and_or, not_not, not_lt]
  exact putQuotient_spec (fun h => if_neg fun hi => hinvalid.mp hi h) (fun h => if_pos (hinvalid.mpr h))

/-- DIVXS, in the same way. -/
theorem divides_divSigned {w : Nat} (len : BitVec 24) (rd : Reg (w + w)) (d : BitVec (w + w)) (v : BitVec w) (s : State) :
    Divides len rd
      (v.toInt ≠ 0 ∧ -2 ^ (w - 1) ≤ d.toInt.tdiv v.toInt ∧ d.toInt.tdiv v.toInt < 2 ^ (w - 1))
      (BitVec.ofInt w (d.toInt.tmod v.toInt) ++ BitVec.ofInt w (d.toInt.tdiv v.toInt))
      { s.ccr with n := decide (d.toInt < 0) ^^ decide (v.toInt < 0), z := decide (v.toNat = 0) } s
      (.next (putQuotient len rd (divSigned d v) (divSignedFlags d v s.ccr) s)) := by
  rw [divSignedFlags, msb_eq_toInt, msb_eq_toInt, beq_zero_eq_toNat, divSigned, remQuot_eq]
  have hzero : v = 0#w ↔ v.toInt = 0 := BitVec.toInt_inj.symm.trans (by rw [BitVec.toInt_zero])
  have hinvalid : (v = 0#w ∨ d.toInt.tdiv v.toInt < -2 ^ (w - 1) ∨ 2 ^ (w - 1) ≤ d.toInt.tdiv v.toInt) ↔
      ¬ (v.toInt ≠ 0 ∧ -2 ^ (w - 1) ≤ d.toInt.tdiv v.toInt ∧ d.toInt.tdiv v.toInt < 2 ^ (w - 1)) := by
    rw [hzero, not_and_or, not_and_or, not_not, not_le, not_lt]
  exact putQuotient_spec (fun h => if_neg fun hi => hinvalid.mp hi h) (fun h => if_pos (hinvalid.mpr h))

/-- Settles O14. -/
theorem divideSetsRemainderAndQuotient : Obligations.DivideSetsRemainderAndQuotient := by
  unfold Obligations.DivideSetsRemainderAndQuotient
  exact ⟨fun rs rd s => divides_divUnsigned (w := 8) 2 (.w rd) (getReg16 s rd) (getReg8 s rs) s,
    fun rs erd s => divides_divUnsigned (w := 16) 2 (.l erd) (getER s erd) (getReg16 s rs) s,
    fun rs rd s => divides_divSigned (w := 8) 4 (.w rd) (getReg16 s rd) (getReg8 s rs) s,
    fun rs erd s => divides_divSigned (w := 16) 4 (.l erd) (getER s erd) (getReg16 s rs) s⟩

/-! ### Extend (R270 to R273) -/

/-- Settles O15: zero- and sign-extension of a half are the numbers that the half stands for. -/
theorem extendSetsUpperHalf : Obligations.ExtendSetsUpperHalf := by
  unfold Obligations.ExtendSetsUpperHalf
  exact ⟨fun rd _ => alters_of (rd := .w rd) (extuOp_eq 8 _ _), fun erd _ => alters_of (rd := .l erd) (extuOp_eq 16 _ _),
    fun rd _ => alters_of (rd := .w rd) (extsOp_eq 8 _ _), fun erd _ => alters_of (rd := .l erd) (extsOp_eq 16 _ _)⟩

/-! ### TAS (R278) -/

/-- Settles O16: after the bus cycle of the read, TAS is a byte store. -/
theorem tasSetsTopBitOfTestedByte : Obligations.TasSetsTopBitOfTestedByte := by
  unfold Obligations.TasSetsTopBitOfTestedByte
  intro erd s hlisted
  refine completes_of_listed (t := testAndSet erd s) hlisted ?_
  have hstored := byteAt_write8_same (beforeCycle s) (getER s erd) (read8 s (getER s erd) ||| 0x80#8)
  have houtside := write8_outside (beforeCycle s) (getER s erd) (read8 s (getER s erd) ||| 0x80#8)
  have htwo : beforeCycle (beforeCycle s) = beforeCycles 2 s := beforeCycles_succ 1 s
  rw [htwo] at houtside
  exact ⟨hstored, houtside, fun _ => rfl, setNZV0_eq _ _, rfl, by constructor <;> rfl⟩

/-! ### MAC (R279, R280) -/

/-- The four MAC instruction types complete on the H8S/2600 (R115). -/
theorem completes_withMac {s t : State} (hcpu : s.cfg.cpu = .h8s2600) {P : State → Prop} (ht : P t) :
    Completes (withMac t s) P := ⟨t, by rw [withMac, hcpu], ht⟩

/-- What MAC does to the multiply-accumulate register, by MACS. -/
def accumulate (p : Int) (s : State) : State := if s.env.macs then macSaturating p s else macWrapping p s

theorem accumulate_spec (p : Int) (s : State) :
    if s.env.macs then AccumulatesSaturating p s (accumulate p s) else AccumulatesWrapping p s (accumulate p s) := by
  unfold accumulate
  split
  · exact macSaturating_spec p s
  · exact macWrapping_spec p s

/-- The accumulation changes the multiply-accumulate register and the multiplier's flags only. -/
theorem accumulate_eq (p : Int) (s : State) :
    ∃ (mach : BitVec 10) (macl : Long) (n z v : Bool),
      accumulate p s = { s with mach := mach, macl := macl, nMult := n, zMult := z, vMult := v } := by
  unfold accumulate
  split
  · exact ⟨_, _, _, _, _, rfl⟩
  · exact ⟨_, _, _, _, _, rfl⟩

/-- Two registers go up by 2, one after the other. -/
def raiseBoth (n m : RegNum) (s : State) : State :=
  let s1 := setER s n (getER s n + 2)
  setER s1 m (getER s1 m + 2)

theorem getER_raiseBoth_first (n m : RegNum) (s : State) :
    getER (raiseBoth n m s) n = if m = n then getER s n + 4 else getER s n + 2 := by
  unfold raiseBoth
  split
  case isTrue h => subst h; simp [BitVec.add_assoc]
  case isFalse h => rw [getER_setER_ne _ _ (Ne.symm h), getER_setER_same]

theorem getER_raiseBoth_second {n m : RegNum} (h : m ≠ n) (s : State) : getER (raiseBoth n m s) m = getER s m + 2 := by
  rw [raiseBoth, getER_setER_same, getER_setER_ne _ _ h]

theorem getER_raiseBoth_ne {n m k : RegNum} (hn : k ≠ n) (hm : k ≠ m) (s : State) :
    getER (raiseBoth n m s) k = getER s k := by
  rw [raiseBoth, getER_setER_ne _ _ hm, getER_setER_ne _ _ hn]

/-- The address of MAC's second word: the first register has been raised by then. -/
def macSecondAddr (n m : RegNum) (s : State) : Long := if m = n then getER s n + 2 else getER s m

theorem getER_raised (n m : RegNum) (s : State) :
    getER (setER (beforeCycle s) n (getER s n + 2)) m = macSecondAddr n m s := by
  rw [getER_setER, macSecondAddr]; rfl

/-- The product that MAC adds: the environment may act before the first word is read, and again before the second one. -/
def macProduct (n m : RegNum) (s : State) : Int :=
  (read16 s (getER s n)).toInt * (read16 (beforeCycle s) (macSecondAddr n m s)).toInt

/-- MAC in three parts: both words read, both registers raised, the product accumulated. Writing a register and a bus cycle do
not see each other. -/
theorem multiplyAccumulate_eq (n m : RegNum) (s : State) :
    multiplyAccumulate n m s = advance 4 (accumulate (macProduct n m s) (raiseBoth n m (beforeCycles 2 s))) := by
  rw [← beforeCycles_succ 1 s, macProduct, ← getER_raised]
  rfl

/-- Settles O17, from the three parts of MAC. -/
theorem macAccumulatesProduct : Obligations.MacAccumulatesProduct := by
  unfold Obligations.MacAccumulatesProduct
  intro ern erm s hcpu
  refine completes_withMac hcpu ?_
  rw [multiplyAccumulate_eq]
  have hacc := accumulate_spec (macProduct ern erm s) (raiseBoth ern erm (beforeCycles 2 s))
  obtain ⟨mach, macl, n, z, v, heq⟩ := accumulate_eq (macProduct ern erm s) (raiseBoth ern erm (beforeCycles 2 s))
  rw [heq] at hacc ⊢
  exact ⟨hacc, getER_raiseBoth_first ern erm (beforeCycles 2 s), fun h => getER_raiseBoth_second h (beforeCycles 2 s),
    fun _ hn hm => getER_raiseBoth_ne hn hm (beforeCycles 2 s), rfl, rfl, fun _ => rfl, by constructor <;> rfl⟩

/-! ### CLRMAC, LDMAC and STMAC (R281 to R285) -/

/-- Writing CCR back as it stands is no change, so only PC moves. -/
theorem setsCcr_keep (len : BitVec 24) (s : State) : SetsCcr len s.ccr s (advance len s) := setsCcr_set len s.ccr s

/-- Settles O18. MACH is the lower 10 bits of the register that LDMAC reads. -/
theorem macRegisterTransfers : Obligations.MacRegisterTransfers := by
  unfold Obligations.MacRegisterTransfers
  intro n s hcpu
  rw [BitVec.ofNat_toNat]
  exact ⟨completes_withMac hcpu (setsCcr_keep 2 { s with mach := 0, macl := 0, vMult := false }),
    completes_withMac hcpu (setsCcr_keep 2 { s with mach := (getER s n).setWidth 10, vMult := false }),
    completes_withMac hcpu (setsCcr_keep 2 { s with macl := getER s n, vMult := false }),
    completes_withMac hcpu (setsRegister_put 2 (.l n) _ _ s), completes_withMac hcpu (setsRegister_put 2 (.l n) _ _ s)⟩

end Sys2Proof.Machine
end

section
/-! SUPPORT. 43_logic: AND, OR, XOR and NOT (O20) by their two shapes, whose flags are the law of R300 (R301 to R321). -/

namespace Sys2Proof.Machine

/-- AND, OR and XOR differ in `f` alone. -/
theorem computes_logicOp {w : Nat} (f : BitVec w → BitVec w → BitVec w) (len : BitVec 24) (rd : Reg w) (x : BitVec w)
    (s : State) : Computes len rd (f (rd.get s) x) s (.next (alterReg len rd (logicOp f x) s)) :=
  alters_of (by rw [logicOp, setNZV0_eq])

theorem computes_notOp {w : Nat} (len : BitVec 24) (rd : Reg w) (s : State) :
    Computes len rd (~~~(rd.get s)) s (.next (alterReg len rd notOp s)) :=
  alters_of (by rw [notOp, setNZV0_eq])

/-- Settles O20: AND, OR and XOR each with the immediate and with a register's value, in the three widths, then NOT. -/
theorem logicSetsResultAndFlags : Obligations.LogicSetsResultAndFlags := by
  unfold Obligations.LogicSetsResultAndFlags
  exact ⟨fun imm rd => computes_logicOp (· &&& ·) 2 (.b rd) imm,
    fun rs rd s => computes_logicOp (· &&& ·) 2 (.b rd) (getReg8 s rs) s,
    fun imm rd => computes_logicOp (· &&& ·) 4 (.w rd) imm,
    fun rs rd s => computes_logicOp (· &&& ·) 2 (.w rd) (getReg16 s rs) s,
    fun imm erd => computes_logicOp (· &&& ·) 6 (.l erd) imm,
    fun ers erd s => computes_logicOp (· &&& ·) 4 (.l erd) (getER s ers) s,
    fun imm rd => computes_logicOp (· ||| ·) 2 (.b rd) imm,
    fun rs rd s => computes_logicOp (· ||| ·) 2 (.b rd) (getReg8 s rs) s,
    fun imm rd => computes_logicOp (· ||| ·) 4 (.w rd) imm,
    fun rs rd s => computes_logicOp (· ||| ·) 2 (.w rd) (getReg16 s rs) s,
    fun imm erd => computes_logicOp (· ||| ·) 6 (.l erd) imm,
    fun ers erd s => computes_logicOp (· ||| ·) 4 (.l erd) (getER s ers) s,
    fun imm rd => computes_logicOp (· ^^^ ·) 2 (.b rd) imm,
    fun rs rd s => computes_logicOp (· ^^^ ·) 2 (.b rd) (getReg8 s rs) s,
    fun imm rd => computes_logicOp (· ^^^ ·) 4 (.w rd) imm,
    fun rs rd s => computes_logicOp (· ^^^ ·) 2 (.w rd) (getReg16 s rs) s,
    fun imm erd => computes_logicOp (· ^^^ ·) 6 (.l erd) imm,
    fun ers erd s => computes_logicOp (· ^^^ ·) 4 (.l erd) (getER s ers) s,
    fun rd => computes_notOp 2 (.b rd), fun rd => computes_notOp 2 (.w rd), fun erd => computes_notOp 2 (.l erd)⟩

end Sys2Proof.Machine
end

section
/-! SUPPORT. 44_shift: SHAL, SHAR, SHLL, SHLR, ROTL, ROTR, ROTXL and ROTXR (O21 to O24) by the law of each operation, for any
register and any number of places below its width (R600 to R649). The instructions are those by 1 and by 2, for a byte, a word and
a longword. -/

namespace Sys2Proof.Machine

/-! ### Shifts (R602 to R625) -/

/-- V is the signed overflow of the product with `2 ^ k` (R601). -/
theorem shifts_shalOp {w : Nat} (k : Nat) (hk : k < w) (rd : Reg w) (s : State) :
    Shifts rd (rd.get s <<< k) ((rd.get s).getLsbD (w - k))
      (decide ((rd.get s).toInt * 2 ^ k < -2 ^ (w - 1) ∨ 2 ^ (w - 1) ≤ (rd.get s).toInt * 2 ^ k)) s
      (.next (alterReg 2 rd (shalOp k) s)) := alters_of (shalOp_eq k hk _ _)

theorem shifts_sharOp {w : Nat} (k : Nat) (rd : Reg w) (s : State) :
    Shifts rd ((rd.get s).sshiftRight k) ((rd.get s).getLsbD (k - 1)) false s (.next (alterReg 2 rd (sharOp k) s)) :=
  alters_of (sharOp_eq k _ _)

theorem shifts_shllOp {w : Nat} (k : Nat) (rd : Reg w) (s : State) :
    Shifts rd (rd.get s <<< k) ((rd.get s).getLsbD (w - k)) false s (.next (alterReg 2 rd (shllOp k) s)) :=
  alters_of (shllOp_eq k _ _)

theorem shifts_shlrOp {w : Nat} (k : Nat) (rd : Reg w) (s : State) :
    Shifts rd (rd.get s >>> k) ((rd.get s).getLsbD (k - 1)) false s (.next (alterReg 2 rd (shlrOp k) s)) :=
  alters_of (shlrOp_eq k _ _)

/-- Settles O21: SHAL with V as the signed overflow (R601), SHAR with V = 0. -/
theorem arithmeticShiftsSetCarryAndOverflow : Obligations.ArithmeticShiftsSetCarryAndOverflow := by
  unfold Obligations.ArithmeticShiftsSetCarryAndOverflow
  exact ⟨fun rd => shifts_shalOp 1 (by decide) (.b rd), fun rd => shifts_shalOp 2 (by decide) (.b rd),
    fun rd => shifts_shalOp 1 (by decide) (.w rd), fun rd => shifts_shalOp 2 (by decide) (.w rd),
    fun erd => shifts_shalOp 1 (by decide) (.l erd), fun erd => shifts_shalOp 2 (by decide) (.l erd),
    fun rd => shifts_sharOp 1 (.b rd), fun rd => shifts_sharOp 2 (.b rd),
    fun rd => shifts_sharOp 1 (.w rd), fun rd => shifts_sharOp 2 (.w rd),
    fun erd => shifts_sharOp 1 (.l erd), fun erd => shifts_sharOp 2 (.l erd)⟩

/-- Settles O22: SHLL takes C from bit `w - k`, SHLR from bit `k - 1`, the last bit out by `k` places. -/
theorem logicalShiftsFillWithZero : Obligations.LogicalShiftsFillWithZero := by
  unfold Obligations.LogicalShiftsFillWithZero
  exact ⟨fun rd => shifts_shllOp 1 (.b rd), fun rd => shifts_shllOp 2 (.b rd),
    fun rd => shifts_shllOp 1 (.w rd), fun rd => shifts_shllOp 2 (.w rd),
    fun erd => shifts_shllOp 1 (.l erd), fun erd => shifts_shllOp 2 (.l erd),
    fun rd => shifts_shlrOp 1 (.b rd), fun rd => shifts_shlrOp 2 (.b rd),
    fun rd => shifts_shlrOp 1 (.w rd), fun rd => shifts_shlrOp 2 (.w rd),
    fun erd => shifts_shlrOp 1 (.l erd), fun erd => shifts_shlrOp 2 (.l erd)⟩

/-! ### Rotates (R626 to R649) -/

theorem shifts_rotlOp {w : Nat} (k : Nat) (hk : k < w) (rd : Reg w) (s : State) :
    Shifts rd ((rd.get s).rotateLeft k) ((rd.get s).getLsbD (w - k)) false s (.next (alterReg 2 rd (rotlOp k) s)) :=
  alters_of (rotlOp_eq k hk _ _)

theorem shifts_rotrOp {w : Nat} (k : Nat) (hk : k < w) (rd : Reg w) (s : State) :
    Shifts rd ((rd.get s).rotateRight k) ((rd.get s).getLsbD (k - 1)) false s (.next (alterReg 2 rd (rotrOp k) s)) :=
  alters_of (rotrOp_eq k hk _ _)

/-- The carry stands above the register's top bit, and what the rotation puts there is the new carry. -/
theorem shifts_rotxlOp {w : Nat} (k : Nat) (hpos : 0 < k) (hk : k < w) (rd : Reg w) (s : State) :
    let q := (BitVec.ofBool s.ccr.c ++ rd.get s).rotateLeft k
    Shifts rd (q.setWidth w) (q.getLsbD w) false s (.next (alterReg 2 rd (rotxlOp k) s)) :=
  alters_of (rotxlOp_eq k hpos hk _ _)

theorem shifts_rotxrOp {w : Nat} (k : Nat) (hpos : 0 < k) (hk : k < w) (rd : Reg w) (s : State) :
    let q := (BitVec.ofBool s.ccr.c ++ rd.get s).rotateRight k
    Shifts rd (q.setWidth w) (q.getLsbD w) false s (.next (alterReg 2 rd (rotxrOp k) s)) :=
  alters_of (rotxrOp_eq k hpos hk _ _)

/-- Settles O23: C is the bit that the last place of the rotation carries round. -/
theorem rotatesKeepAllBits : Obligations.RotatesKeepAllBits := by
  unfold Obligations.RotatesKeepAllBits
  exact ⟨fun rd => shifts_rotlOp 1 (by decide) (.b rd), fun rd => shifts_rotlOp 2 (by decide) (.b rd),
    fun rd => shifts_rotlOp 1 (by decide) (.w rd), fun rd => shifts_rotlOp 2 (by decide) (.w rd),
    fun erd => shifts_rotlOp 1 (by decide) (.l erd), fun erd => shifts_rotlOp 2 (by decide) (.l erd),
    fun rd => shifts_rotrOp 1 (by decide) (.b rd), fun rd => shifts_rotrOp 2 (by decide) (.b rd),
    fun rd => shifts_rotrOp 1 (by decide) (.w rd), fun rd => shifts_rotrOp 2 (by decide) (.w rd),
    fun erd => shifts_rotrOp 1 (by decide) (.l erd), fun erd => shifts_rotrOp 2 (by decide) (.l erd)⟩

/-- Settles O24: the rotation of the register with the carry above it. -/
theorem extendedRotatesGoThroughCarry : Obligations.ExtendedRotatesGoThroughCarry := by
  unfold Obligations.ExtendedRotatesGoThroughCarry
  exact ⟨fun rd => shifts_rotxlOp 1 Nat.one_pos (by decide) (.b rd), fun rd => shifts_rotxlOp 2 Nat.two_pos (by decide) (.b rd),
    fun rd => shifts_rotxlOp 1 Nat.one_pos (by decide) (.w rd), fun rd => shifts_rotxlOp 2 Nat.two_pos (by decide) (.w rd),
    fun erd => shifts_rotxlOp 1 Nat.one_pos (by decide) (.l erd), fun erd => shifts_rotxlOp 2 Nat.two_pos (by decide) (.l erd),
    fun rd => shifts_rotxrOp 1 Nat.one_pos (by decide) (.b rd), fun rd => shifts_rotxrOp 2 Nat.two_pos (by decide) (.b rd),
    fun rd => shifts_rotxrOp 1 Nat.one_pos (by decide) (.w rd), fun rd => shifts_rotxrOp 2 Nat.two_pos (by decide) (.w rd),
    fun erd => shifts_rotxrOp 1 Nat.one_pos (by decide) (.l erd), fun erd => shifts_rotxrOp 2 Nat.two_pos (by decide) (.l erd)⟩

end Sys2Proof.Machine
end

section
/-! SUPPORT. 45_bit and 46_bit_bnot_to_bxor: the bit instructions (O25 to O27) by their two shapes, a bit read into CCR or a bit of
the operand byte replaced (R705). Each comes with its operand byte in a register, at @ERd, @aa:8, @aa:16 and @aa:32 (R700), and its
bit number in the instruction or in Rn. -/

namespace Sys2Proof.Machine

/-! ### The bit number in Rn (R701) -/

/-- The lower 3 bits of Rn are its value modulo 8. -/
theorem bitNumber_eq (s : State) (rn : Reg8) : bitNumber s rn = Fin.ofNat 8 (getReg8 s rn).toNat := by
  apply Fin.ext
  simp [bitNumber]

theorem testBit_rn_spec (len : BitVec 24) (p : BitPlace) (rn : Reg8) (f : Bool → Ccr → Ccr) (s : State) :
    TestsBit len p (Fin.ofNat 8 (getReg8 s rn).toNat) (fun b => f b s.ccr) s
      (.next (testBit len p (bitNumber s rn) f s)) := by
  rw [← bitNumber_eq]
  exact testBit_spec len p (bitNumber s rn) f s

theorem alterBit_rn_spec (len : BitVec 24) (p : BitPlace) (rn : Reg8) (f : Bool → Bool → Bool) (s : State) :
    ReplacesBit len p (Fin.ofNat 8 (getReg8 s rn).toNat) (fun b => f b s.ccr.c) s
      (.next (alterBit len p (bitNumber s rn) f s)) := by
  rw [← bitNumber_eq]
  exact alterBit_spec len p (bitNumber s rn) f s

/-! ### Bits read (R705) -/

/-- Settles O25: each reads its bit and gives CCR by its own operation, in the order BAND, BIAND, BILD, BIOR, BIXOR, BLD, BOR,
BXOR. -/
theorem bitLogicChangesCarryOnly : Obligations.BitLogicChangesCarryOnly := by
  unfold Obligations.BitLogicChangesCarryOnly
  exact ⟨fun n rd => testBit_spec 2 (.reg rd) n bitAnd, fun n erd => testBit_spec 4 (.mem (.ind erd)) n bitAnd,
    fun n abs => testBit_spec 4 (.mem (.abs8 abs)) n bitAnd, fun n abs => testBit_spec 6 (.mem (.abs16 abs)) n bitAnd,
    fun n abs => testBit_spec 8 (.mem (.abs32 abs)) n bitAnd,
    fun n rd => testBit_spec 2 (.reg rd) n bitAndNot, fun n erd => testBit_spec 4 (.mem (.ind erd)) n bitAndNot,
    fun n abs => testBit_spec 4 (.mem (.abs8 abs)) n bitAndNot, fun n abs => testBit_spec 6 (.mem (.abs16 abs)) n bitAndNot,
    fun n abs => testBit_spec 8 (.mem (.abs32 abs)) n bitAndNot,
    fun n rd => testBit_spec 2 (.reg rd) n bitLoadNot, fun n erd => testBit_spec 4 (.mem (.ind erd)) n bitLoadNot,
    fun n abs => testBit_spec 4 (.mem (.abs8 abs)) n bitLoadNot, fun n abs => testBit_spec 6 (.mem (.abs16 abs)) n bitLoadNot,
    fun n abs => testBit_spec 8 (.mem (.abs32 abs)) n bitLoadNot,
    fun n rd => testBit_spec 2 (.reg rd) n bitOrNot, fun n erd => testBit_spec 4 (.mem (.ind erd)) n bitOrNot,
    fun n abs => testBit_spec 4 (.mem (.abs8 abs)) n bitOrNot, fun n abs => testBit_spec 6 (.mem (.abs16 abs)) n bitOrNot,
    fun n abs => testBit_spec 8 (.mem (.abs32 abs)) n bitOrNot,
    fun n rd => testBit_spec 2 (.reg rd) n bitXorNot, fun n erd => testBit_spec 4 (.mem (.ind erd)) n bitXorNot,
    fun n abs => testBit_spec 4 (.mem (.abs8 abs)) n bitXorNot, fun n abs => testBit_spec 6 (.mem (.abs16 abs)) n bitXorNot,
    fun n abs => testBit_spec 8 (.mem (.abs32 abs)) n bitXorNot,
    fun n rd => testBit_spec 2 (.reg rd) n bitLoad, fun n erd => testBit_spec 4 (.mem (.ind erd)) n bitLoad,
    fun n abs => testBit_spec 4 (.mem (.abs8 abs)) n bitLoad, fun n abs => testBit_spec 6 (.mem (.abs16 abs)) n bitLoad,
    fun n abs => testBit_spec 8 (.mem (.abs32 abs)) n bitLoad,
    fun n rd => testBit_spec 2 (.reg rd) n bitOr, fun n erd => testBit_spec 4 (.mem (.ind erd)) n bitOr,
    fun n abs => testBit_spec 4 (.mem (.abs8 abs)) n bitOr, fun n abs => testBit_spec 6 (.mem (.abs16 abs)) n bitOr,
    fun n abs => testBit_spec 8 (.mem (.abs32 abs)) n bitOr,
    fun n rd => testBit_spec 2 (.reg rd) n bitXor, fun n erd => testBit_spec 4 (.mem (.ind erd)) n bitXor,
    fun n abs => testBit_spec 4 (.mem (.abs8 abs)) n bitXor, fun n abs => testBit_spec 6 (.mem (.abs16 abs)) n bitXor,
    fun n abs => testBit_spec 8 (.mem (.abs32 abs)) n bitXor⟩

/-- Settles O26: BTST reads its bit as those of O25 do, its number from the instruction, then from Rn. -/
theorem btstSetsZeroFlagOnly : Obligations.BtstSetsZeroFlagOnly := by
  unfold Obligations.BtstSetsZeroFlagOnly
  exact ⟨fun n rd => testBit_spec 2 (.reg rd) n bitTest, fun n erd => testBit_spec 4 (.mem (.ind erd)) n bitTest,
    fun n abs => testBit_spec 4 (.mem (.abs8 abs)) n bitTest, fun n abs => testBit_spec 6 (.mem (.abs16 abs)) n bitTest,
    fun n abs => testBit_spec 8 (.mem (.abs32 abs)) n bitTest,
    fun rn rd => testBit_rn_spec 2 (.reg rd) rn bitTest, fun rn erd => testBit_rn_spec 4 (.mem (.ind erd)) rn bitTest,
    fun rn abs => testBit_rn_spec 4 (.mem (.abs8 abs)) rn bitTest, fun rn abs => testBit_rn_spec 6 (.mem (.abs16 abs)) rn bitTest,
    fun rn abs => testBit_rn_spec 8 (.mem (.abs32 abs)) rn bitTest⟩

/-! ### Bits replaced (R704, R705) -/

/-- Settles O27: each replaces its bit by a function of it and the carry, in the order BCLR, BIST, BNOT, BSET, BST, the number from
the instruction before that from Rn. -/
theorem bitWritesReplaceOneBit : Obligations.BitWritesReplaceOneBit := by
  unfold Obligations.BitWritesReplaceOneBit
  exact ⟨fun n rd => alterBit_spec 2 (.reg rd) n bitClear, fun n erd => alterBit_spec 4 (.mem (.ind erd)) n bitClear,
    fun n abs => alterBit_spec 4 (.mem (.abs8 abs)) n bitClear, fun n abs => alterBit_spec 6 (.mem (.abs16 abs)) n bitClear,
    fun n abs => alterBit_spec 8 (.mem (.abs32 abs)) n bitClear,
    fun rn rd => alterBit_rn_spec 2 (.reg rd) rn bitClear, fun rn erd => alterBit_rn_spec 4 (.mem (.ind erd)) rn bitClear,
    fun rn abs => alterBit_rn_spec 4 (.mem (.abs8 abs)) rn bitClear,
    fun rn abs => alterBit_rn_spec 6 (.mem (.abs16 abs)) rn bitClear,
    fun rn abs => alterBit_rn_spec 8 (.mem (.abs32 abs)) rn bitClear,
    fun n rd => alterBit_spec 2 (.reg rd) n bitStoreNot, fun n erd => alterBit_spec 4 (.mem (.ind erd)) n bitStoreNot,
    fun n abs => alterBit_spec 4 (.mem (.abs8 abs)) n bitStoreNot, fun n abs => alterBit_spec 6 (.mem (.abs16 abs)) n bitStoreNot,
    fun n abs => alterBit_spec 8 (.mem (.abs32 abs)) n bitStoreNot,
    fun n rd => alterBit_spec 2 (.reg rd) n bitNot, fun n erd => alterBit_spec 4 (.mem (.ind erd)) n bitNot,
    fun n abs => alterBit_spec 4 (.mem (.abs8 abs)) n bitNot, fun n abs => alterBit_spec 6 (.mem (.abs16 abs)) n bitNot,
    fun n abs => alterBit_spec 8 (.mem (.abs32 abs)) n bitNot,
    fun rn rd => alterBit_rn_spec 2 (.reg rd) rn bitNot, fun rn erd => alterBit_rn_spec 4 (.mem (.ind erd)) rn bitNot,
    fun rn abs => alterBit_rn_spec 4 (.mem (.abs8 abs)) rn bitNot, fun rn abs => alterBit_rn_spec 6 (.mem (.abs16 abs)) rn bitNot,
    fun rn abs => alterBit_rn_spec 8 (.mem (.abs32 abs)) rn bitNot,
    fun n rd => alterBit_spec 2 (.reg rd) n bitSet, fun n erd => alterBit_spec 4 (.mem (.ind erd)) n bitSet,
    fun n abs => alterBit_spec 4 (.mem (.abs8 abs)) n bitSet, fun n abs => alterBit_spec 6 (.mem (.abs16 abs)) n bitSet,
    fun n abs => alterBit_spec 8 (.mem (.abs32 abs)) n bitSet,
    fun rn rd => alterBit_rn_spec 2 (.reg rd) rn bitSet, fun rn erd => alterBit_rn_spec 4 (.mem (.ind erd)) rn bitSet,
    fun rn abs => alterBit_rn_spec 4 (.mem (.abs8 abs)) rn bitSet, fun rn abs => alterBit_rn_spec 6 (.mem (.abs16 abs)) rn bitSet,
    fun rn abs => alterBit_rn_spec 8 (.mem (.abs32 abs)) rn bitSet,
    fun n rd => alterBit_spec 2 (.reg rd) n bitStore, fun n erd => alterBit_spec 4 (.mem (.ind erd)) n bitStore,
    fun n abs => alterBit_spec 4 (.mem (.abs8 abs)) n bitStore, fun n abs => alterBit_spec 6 (.mem (.abs16 abs)) n bitStore,
    fun n abs => alterBit_spec 8 (.mem (.abs32 abs)) n bitStore⟩

end Sys2Proof.Machine
end

section
/-! SUPPORT. 47_branch besides Bcc: JMP (O29), BSR and JSR (O30) by the shapes of an assignment to PC and of a call, RTS (O31) by
what popping PC does (R901), and a call followed by RTS (O56) from O30. -/

namespace Sys2Proof.Machine

/-! ### JMP, BSR and JSR (R936 to R943) -/

/-- The model and the statements form the branch address at the same zero-extended address (R75). -/
theorem memIndirect_eq (a : BitVec 8) (s : State) : memIndirect a s = indirectTarget s a := by
  unfold memIndirect indirectTarget
  cases s.cfg.mode <;> simp only [BitVec.ofNat_toNat]

/-- An assignment to PC, seen as the outcome of an instruction. -/
theorem completes_setPc (s : State) (v : BitVec 24) : Completes (.next (setPc s v)) (GoesTo v s) := ⟨_, rfl, goesTo_setPc s v⟩

/-- Settles O29: each is an assignment to PC. -/
theorem jumpsGoToTarget : Obligations.JumpsGoToTarget := by
  unfold Obligations.JumpsGoToTarget
  intro ern abs8 abs24 s
  rw [← memIndirect_eq]
  exact ⟨completes_setPc s _, completes_setPc s abs24, completes_setPc (beforeCycles (addressCycles s.cfg) s) _⟩

/-- Settles O30: each is a call to its target. -/
theorem callsPushReturnAddress : Obligations.CallsPushReturnAddress := by
  unfold Obligations.CallsPushReturnAddress
  intro ern abs8 disp8 disp16 abs24 s
  rw [← memIndirect_eq]
  exact ⟨callTo_spec 2 _ s, callTo_spec 4 _ s, callTo_spec 2 _ s, callTo_spec 4 abs24 s,
    callTo_spec 2 _ (beforeCycles (addressCycles s.cfg) s)⟩

/-! ### RTS (R944) -/

/-- How many bytes PC takes on the stack (R901). -/
def pcSlotSize (cfg : Config) : Long :=
  match cfg.mode with
  | .normal => 2
  | .advanced => 4

/-- Popping PC is its bus cycles and ER7 raised, in both modes. -/
theorem dropPC_eq (s : State) : dropPC s = raiseSp (pcSlotSize s.cfg) (beforeCycles (addressCycles s.cfg) s) := by
  unfold dropPC pcSlotSize
  cases s.cfg.mode <;> rfl

theorem exec_rts (s : State) :
    exec .rts s = .next (setPc (raiseSp (pcSlotSize s.cfg) (beforeCycles (addressCycles s.cfg) s)) (stackedPC s)) := by
  rw [← dropPC_eq]
  rfl

/-- ER7 raised and PC assigned leave all that is neither register, PC, CCR nor memory. -/
theorem untouched_setPc_raiseSp (n : Long) (v : BitVec 24) (s : State) : Untouched s (setPc (raiseSp n s) v) := by
  constructor <;> rfl

/-- Settles O31: the two modes differ in the size of what is popped only. -/
theorem rtsPopsReturnAddress : Obligations.RtsPopsReturnAddress := by
  unfold Obligations.RtsPopsReturnAddress
  intro s
  refine ⟨_, exec_rts s, ?popped, raiseSp_others _ _, rfl, fun _ => rfl, untouched_setPc_raiseSp ..⟩
  case popped =>
    simp only [getER_setPc, getER_raiseSp, getER_beforeCycles, setPc_pc, raiseSp_cfg, beforeCycles_cfg, pcSlotSize, stackedPC, sp]
    cases s.cfg.mode <;> exact ⟨rfl, rfl⟩

/-! ### A call, and RTS after it -/

theorem SameBus.undisturbed {s t : State} (h : SameBus s t) (hs : s.Undisturbed) : t.Undisturbed :=
  hs.imp (fun hg => (congrArg Config.granularity h.cfg).trans hg) h.acts.trans

/-- Undisturbed, RTS is ER7 raised and PC loaded from the stack. -/
theorem State.Undisturbed.exec_rts {s : State} (h : s.Undisturbed) :
    exec .rts s = .next (setPc (raiseSp (pcSlotSize s.cfg) s) (stackedPC s)) := by
  rw [Sys2Proof.Machine.exec_rts, h.beforeCycles]

/-- In normal mode the word on the stack is all of PC (R28). -/
theorem pcValue_normal_low (v : BitVec 24) : pcValue .normal ((v.setWidth 16).setWidth 24) = pcValue .normal v := by
  simp [pcValue]

/-- In advanced mode PC is what lies below the reserved byte (R901). -/
theorem setWidth_reserved_append (reserved : Byte) (v : BitVec 24) : (reserved ++ v).setWidth 24 = v := by
  rw [BitVec.setWidth_append, dif_pos le_rfl, BitVec.setWidth_eq]

/-- The state `t` that a call leaves, undisturbed: PC's slot is on the stack, and holds the return address. -/
structure ReturnStacked (len : BitVec 24) (s t : State) : Prop where
  er7 : getER t 7 = getER s 7 - pcSlotSize s.cfg
  others : OtherRegisters 7 s t
  ccr : t.ccr = s.ccr
  cfg : t.cfg = s.cfg
  undisturbed : t.Undisturbed
  stacked : pcValue s.cfg.mode (stackedPC t) = pcValue s.cfg.mode (s.pc + len)

theorem Calls.returnStacked {len target : BitVec 24} {s t : State} (h : Calls len target s (.next t)) (hs : s.Undisturbed)
    (hkeys : (longKeys s.cfg (getER s 7 - 4)).Nodup) : ReturnStacked len s t := by
  unfold Calls at h
  split at h <;> rename_i hm
  · obtain ⟨_, ⟨⟩, hsp, hothers, hmem, -, -, hccr, hrest⟩ := h
    have hbus : SameBus (write16 s (getER s 7 - 2) ((s.pc + len).setWidth 16)) t :=
      ⟨hmem, hrest.writes, hrest.cfg, congrArg Env.acts hrest.env⟩
    have hcfg : t.cfg = s.cfg := hrest.cfg
    refine ⟨by rw [hsp, pcSlotSize, hm], hothers, hccr, hcfg, hbus.undisturbed (hs.write16 ..), ?_⟩
    have hread : stackedPC t = ((s.pc + len).setWidth 16).setWidth 24 := by
      simp only [stackedPC, hcfg, hm, sp, hsp, hbus.read16, read16_write16 hs]
    rw [hread, hm, pcValue_normal_low]
  · obtain ⟨_, ⟨⟩, hsp, hothers, ⟨reserved, hmem, hrest⟩, -, -, hccr⟩ := h
    have hbus : SameBus (write32 s (getER s 7 - 4) (reserved ++ (s.pc + len))) t :=
      ⟨hmem, hrest.writes, hrest.cfg, congrArg Env.acts hrest.env⟩
    have hcfg : t.cfg = s.cfg := hrest.cfg
    refine ⟨by rw [hsp, pcSlotSize, hm], hothers, hccr, hcfg, hbus.undisturbed (hs.write32 ..), ?_⟩
    have hread : stackedPC t = s.pc + len := by
      simp only [stackedPC, hcfg, hm, sp, hsp, hbus.read32, read32_write32 hs _ _ hkeys,
        setWidth_reserved_append]
    rw [hread]

/-- RTS where the return address is on the stack: what a call has done to ER7 is undone. -/
theorem ReturnStacked.rts {len : BitVec 24} {s t : State} (h : ReturnStacked len s t) :
    Completes (exec .rts t) fun u =>
      SameRegisters s u ∧ u.ccr = s.ccr ∧ u.pc = pcValue s.cfg.mode (s.pc + len) ∧ u.mem = t.mem := by
  refine ⟨_, h.undisturbed.exec_rts, fun n => ?registers, h.ccr, ?pc, rfl⟩
  case registers =>
    by_cases hn : n = 7
    · subst hn
      rw [getER_setPc, getER_raiseSp, h.er7, h.cfg, BitVec.sub_add_cancel]
    · exact (raiseSp_others _ t n hn).trans (h.others n hn)
  case pc => rw [setPc_pc, raiseSp_cfg, h.cfg, h.stacked]

/-- Settles O56: by O30 each of the five leaves its return address, its own size on, on the stack. -/
theorem callThenRtsReturns : Obligations.CallThenRtsReturns := by
  unfold Obligations.CallThenRtsReturns
  intro ern abs8 disp8 disp16 abs24 s t hs hkeys i hi hexec
  obtain ⟨hbsr8, hbsr16, hjsrReg, hjsrAbs, hjsrMem⟩ := callsPushReturnAddress ern abs8 disp8 disp16 abs24 s
  rw [hs.beforeCycles] at hjsrMem
  have hcall : ∃ target, Calls (BitVec.ofNat 24 i.size) target s (exec i s) := by
    simp only [List.mem_cons, List.not_mem_nil, or_false] at hi
    obtain rfl | rfl | rfl | rfl | rfl := hi
    · exact ⟨_, hbsr8⟩
    · exact ⟨_, hbsr16⟩
    · exact ⟨_, hjsrReg⟩
    · exact ⟨_, hjsrAbs⟩
    · exact ⟨_, hjsrMem⟩
  obtain ⟨target, hcall⟩ := hcall
  rw [hexec] at hcall
  exact (hcall.returnStacked hs hkeys).rts

end Sys2Proof.Machine
end

section
/-! SUPPORT. 48_system: CCR and EXR as bytes (O60, R30, R34, R800), NOP and SLEEP (O34), the instructions that load CCR or EXR (O35)
and those that store them (O36), each by its shape. -/

namespace Sys2Proof.Machine

/-! ### CCR and EXR as bytes -/

theorem Ccr.ofByte_toByte (c : Ccr) : Ccr.ofByte c.toByte = c := by
  simp only [Ccr.ofByte, Ccr.toByte, BitVec.getLsbD_append, BitVec.getLsbD_ofBool]
  simp

theorem Ccr.toByte_ofByte (v : Byte) : (Ccr.ofByte v).toByte = v := by
  refine BitVec.eq_of_getLsbD_eq fun j hj => ?_
  simp only [Ccr.ofByte, Ccr.toByte, BitVec.getLsbD_append, BitVec.getLsbD_ofBool]
  interval_cases j <;> simp

theorem Exr.ofByte_toByte (x : Exr) : Exr.ofByte x.toByte = x := by
  have hlevel : x.toByte.extractLsb' 0 3 = x.level := by
    rw [Exr.toByte, slice_low _ _ (by decide), BitVec.extractLsb'_eq_self]
  rw [Exr.ofByte, hlevel]
  simp only [Exr.toByte, BitVec.getLsbD_append, BitVec.getLsbD_ofBool]
  simp

/-- T and I2 to I0 are kept, bits 6 to 3 read as 1 (R30). -/
theorem Exr.toByte_ofByte (v : Byte) : (Exr.ofByte v).toByte = v ||| 0x78#8 := by
  refine BitVec.eq_of_getLsbD_eq fun j hj => ?_
  simp only [Exr.ofByte, Exr.toByte, BitVec.getLsbD_append, BitVec.getLsbD_ofBool, BitVec.getLsbD_or,
    BitVec.getLsbD_extractLsb']
  interval_cases j <;> simp

/-- Settles O60. -/
theorem controlRegistersAsBytes : Obligations.ControlRegistersAsBytes := by
  unfold Obligations.ControlRegistersAsBytes
  exact fun c x v => ⟨c.ofByte_toByte, Ccr.toByte_ofByte v, rfl, x.ofByte_toByte, Exr.toByte_ofByte v, rfl⟩

/-! ### NOP and SLEEP (R806, R807) -/

/-- Settles O34: both write nothing but PC, SLEEP from the processing state that it enters. -/
theorem sleepAndNopAdvance : Obligations.SleepAndNopAdvance := by
  unfold Obligations.SleepAndNopAdvance
  exact fun s => ⟨⟨_, rfl, setsCcr_keep 2 s⟩,
    ⟨_, rfl, setsCcr_keep 2 { s with procState := if s.env.ssby then .softwareStandby else .sleep }⟩⟩

/-! ### LDC, ANDC, ORC and XORC (R810 to R825, R850 to R855) -/

/-- LDC.W into CCR loads the byte at the even address, after its bus cycle. -/
theorem loadControl_ccr_spec (len : BitVec 24) (ea : Ea) (s : State) :
    LoadsCcr len (evenByte s (ea.addr 2 s)) (beforeCycle (ea.update 2 s)) (.next (loadControl loadCcr len ea s)) := by
  rw [loadControl_eq]
  exact loadCcr_spec len _ _

theorem loadControl_exr_spec (len : BitVec 24) (ea : Ea) (s : State) :
    LoadsExr len (evenByte s (ea.addr 2 s)) (beforeCycle (ea.update 2 s)) (.next (loadControl loadExr len ea s)) := by
  rw [loadControl_eq]
  exact loadExr_spec len _ _

/-- Settles O35: LDC.B, LDC.W by its addressing mode into CCR and into EXR, then ANDC, ORC and XORC. -/
theorem controlLoadsOpenInhibitWindow : Obligations.ControlLoadsOpenInhibitWindow := by
  unfold Obligations.ControlLoadsOpenInhibitWindow
  exact ⟨fun imm s => loadCcr_spec 2 imm s, fun imm s => loadExr_spec 4 imm s,
    fun rs s => loadCcr_spec 2 (getReg8 s rs) s, fun rs s => loadExr_spec 2 (getReg8 s rs) s,
    fun ers => loadControl_ccr_spec 4 (.ind ers), fun ers disp => loadControl_ccr_spec 6 (.disp16 ers disp),
    fun ers disp => loadControl_ccr_spec 10 (.disp32 ers disp), fun ers => loadControl_ccr_spec 4 (.postInc ers),
    fun abs => loadControl_ccr_spec 6 (.abs16 abs), fun abs => loadControl_ccr_spec 8 (.abs32 abs),
    fun ers => loadControl_exr_spec 4 (.ind ers), fun ers disp => loadControl_exr_spec 6 (.disp16 ers disp),
    fun ers disp => loadControl_exr_spec 10 (.disp32 ers disp), fun ers => loadControl_exr_spec 4 (.postInc ers),
    fun abs => loadControl_exr_spec 6 (.abs16 abs), fun abs => loadControl_exr_spec 8 (.abs32 abs),
    fun imm s => loadCcr_spec 2 (s.ccr.toByte &&& imm) s, fun imm s => loadExr_spec 4 (s.exr.toByte &&& imm) s,
    fun imm s => loadCcr_spec 2 (s.ccr.toByte ||| imm) s, fun imm s => loadExr_spec 4 (s.exr.toByte ||| imm) s,
    fun imm s => loadCcr_spec 2 (s.ccr.toByte ^^^ imm) s, fun imm s => loadExr_spec 4 (s.exr.toByte ^^^ imm) s⟩

/-! ### STC (R830 to R843) -/

/-- Settles O36: STC.B writes a register and no flag; STC.W by its addressing mode, of CCR and of EXR. -/
theorem stcStoresControlRegister : Obligations.StcStoresControlRegister := by
  unfold Obligations.StcStoresControlRegister
  exact ⟨fun rd s => ⟨_, rfl, setsRegister_keep 2 (.b rd) s.ccr.toByte s⟩,
    fun rd s => ⟨_, rfl, setsRegister_keep 2 (.b rd) s.exr.toByte s⟩,
    fun erd s => storeControl_spec 4 s.ccr.toByte (.ind erd) s,
    fun erd disp s => storeControl_spec 6 s.ccr.toByte (.disp16 erd disp) s,
    fun erd disp s => storeControl_spec 10 s.ccr.toByte (.disp32 erd disp) s,
    fun erd s => storeControl_spec 4 s.ccr.toByte (.preDec erd) s,
    fun abs s => storeControl_spec 6 s.ccr.toByte (.abs16 abs) s,
    fun abs s => storeControl_spec 8 s.ccr.toByte (.abs32 abs) s,
    fun erd s => storeControl_spec 4 s.exr.toByte (.ind erd) s,
    fun erd disp s => storeControl_spec 6 s.exr.toByte (.disp16 erd disp) s,
    fun erd disp s => storeControl_spec 10 s.exr.toByte (.disp32 erd disp) s,
    fun erd s => storeControl_spec 4 s.exr.toByte (.preDec erd) s,
    fun abs s => storeControl_spec 6 s.exr.toByte (.abs16 abs) s,
    fun abs s => storeControl_spec 8 s.exr.toByte (.abs32 abs) s⟩

end Sys2Proof.Machine
end

section
/-! SUPPORT. 49_block: EEPMOV (O37, O38) by its two loops in closed form (R451, R452). -/

namespace Sys2Proof.Machine

/-- PC is none of what a block transfer speaks of. -/
theorem BlockMoved.advance {n : Nat} {s t : State} (h : BlockMoved n s t) (len : BitVec 24) : BlockMoved n s (advance len t) :=
  ⟨h.memory, h.outside, h.source, h.target, h.upper, h.others, h.ccr, h.inputs, h.acts, h.rest.of_registers _ _ _⟩

/-- The parameters are the same and PC stands: the instruction ends past itself. -/
theorem advanced_advance {s t : State} (len : BitVec 24) (hc : t.cfg = s.cfg) (hpc : t.pc = s.pc) :
    Advanced len s (advance len t) := by
  rw [Advanced, advance_pc, hc, hpc]

theorem BlockMoved.cfg {n : Nat} {s t : State} (h : BlockMoved n s t) : t.cfg = s.cfg :=
  h.rest.cfg.trans (movedBytes_rest n s).untouched.cfg

/-- Settles O37: the loop runs R4L times, so R4L ends at 0. -/
theorem eepmovByteMovesAllBytes : Obligations.EepmovByteMovesAllBytes := by
  unfold Obligations.EepmovByteMovesAllBytes
  intro s
  obtain ⟨hmoved, hcount, hupper, hpc, henv⟩ := copyBytesB_spec (getReg8 s (.l 4)).toNat s
  refine ⟨_, rfl, hmoved.advance 4, ?count, hupper, henv, advanced_advance 4 hmoved.cfg hpc⟩
  case count =>
    refine hcount.trans ?_
    rw [BitVec.ofNat_toNat, BitVec.setWidth_eq, BitVec.sub_self]
    rfl

/-- Settles O38: what is said of the loop holds after the last assignment to PC too. -/
theorem eepmovWordStopsAtAcceptedInterrupt : Obligations.EepmovWordStopsAtAcceptedInterrupt := by
  unfold Obligations.EepmovWordStopsAtAcceptedInterrupt
  intro s
  obtain ⟨j, hle, hbefore, hstop, hmoved, hcount, hpc, henv⟩ := copyBytesW_spec (getReg16 s (.r 4)).toNat s
  exact ⟨_, rfl, j, hle, hbefore, hstop, hmoved.advance 4, hcount, advanced_advance 4 hmoved.cfg hpc, henv⟩

end Sys2Proof.Machine
end

section
/-! SUPPORT. TRAPA and RTE (O32, O33), and the two in a row (O55): the words of the frame are read back as they were stored (R802,
R804, R805). -/

namespace Sys2Proof.Machine

/-! ### Each by itself -/

/-- Settles O32. -/
theorem trapaTakesException : Obligations.TrapaTakesException := by
  unfold Obligations.TrapaTakesException
  intro imm s
  obtain ⟨henv, hproc, hinhibit, htrace, hstale, -⟩ := takeException_rest (s.pc + 2) (8 + imm.toNat) s.exr s
  exact ⟨_, rfl, takeException_spec (s.pc + 2) (8 + imm.toNat) s.exr s, henv, hproc, hinhibit, htrace, hstale⟩

/-- Settles O33. -/
theorem rteRestoresFrame : Obligations.RteRestoresFrame := by
  unfold Obligations.RteRestoresFrame
  exact fun s => ⟨_, rfl, returnFromException_spec s⟩

/-! ### The frame read back -/

/-- The words of the exception frame of `s`, with return address `ret`, stand in the memory of `t` (R802). -/
structure FrameStands (s : State) (ret : BitVec 24) (t : State) : Prop where
  low : wordAt t (getER s 7 - 2) = ret.setWidth 16
  high : wordAt t (getER s 7 - 4) = s.ccr.toByte ++ frameUpper s ret
  exr : exrValid s.cfg = true → (wordAt t (getER s 7 - 6)).extractLsb' 8 8 = s.exr.toByte

theorem SameBus.frameStands {s t u : State} {ret : BitVec 24} (h : SameBus t u) (hf : FrameStands s ret t) :
    FrameStands s ret u :=
  ⟨(h.wordAt _).trans hf.low, (h.wordAt _).trans hf.high, fun hx => by rw [h.wordAt]; exact hf.exr hx⟩

theorem State.Undisturbed.frameStored {s : State} (h : s.Undisturbed) (ret : BitVec 24) (any : Byte) :
    (frameStored s ret any).Undisturbed := by
  unfold Sys2Proof.Machine.frameStored
  split
  · exact ((h.write16 _ _).write16 _ _).write16 _ _
  · exact (h.write16 _ _).write16 _ _

/-- Undisturbed, a word store leaves every word that it does not reach. -/
theorem wordAt_write16_of_undisturbed {s : State} (h : s.Undisturbed) {a b : Long} (v : Half)
    (hkeys : (wordKeys s.cfg a).Disjoint (wordKeys s.cfg b)) : wordAt (write16 s b v) a = wordAt s a := by
  rw [wordAt_write16_disjoint s a b v hkeys, h.beforeCycle]

/-- Where the bytes of the frame are distinct no word of it overwrites another. -/
theorem frameStands_frameStored {s : State} (h : s.Undisturbed) (hkeys : (frameKeys s).Nodup) (ret : BitVec 24) (any : Byte) :
    FrameStands s ret (frameStored s ret any) := by
  unfold frameKeys at hkeys
  have hpair : (wordKeys s.cfg (getER s 7 - 2)).Disjoint (wordKeys s.cfg (getER s 7 - 4)) :=
    List.disjoint_of_nodup_append hkeys.of_append_left
  have hone := h.write16 (getER s 7 - 2) (ret.setWidth 16)
  have htwo := hone.write16 (getER s 7 - 4) (s.ccr.toByte ++ frameUpper s ret)
  have hlow : wordAt (write16 (write16 s (getER s 7 - 2) (ret.setWidth 16)) (getER s 7 - 4)
      (s.ccr.toByte ++ frameUpper s ret)) (getER s 7 - 2) = ret.setWidth 16 :=
    (wordAt_write16_of_undisturbed hone _ hpair).trans (wordAt_write16_same s _ _)
  unfold frameStored
  cases hx : exrValid s.cfg <;> simp only [hx, Bool.false_eq_true, if_false, if_true] at hkeys ⊢
  case false => exact ⟨hlow, wordAt_write16_same _ _ _, fun hv => absurd hv (by simp [hx])⟩
  case true =>
    obtain ⟨hlowExr, hhighExr⟩ := List.disjoint_append_left.mp (List.disjoint_of_nodup_append hkeys)
    refine ⟨(wordAt_write16_of_undisturbed htwo _ hlowExr).trans hlow,
      (wordAt_write16_of_undisturbed htwo _ hhighExr).trans (wordAt_write16_same _ _ _), fun _ => ?_⟩
    rw [wordAt_write16_same, slice_high _ _ (by decide), BitVec.extractLsb'_eq_self]

/-- The words of the frame of `s`, where they lie from an ER7 that is below them. -/
theorem frame_addresses_back (s : State) {a : Long} (h : a = getER s 7 - frameSize s) :
    a + (if exrValid s.cfg then 2 else 0) = getER s 7 - 4 ∧ a + (if exrValid s.cfg then 4 else 2) = getER s 7 - 2 ∧
      (exrValid s.cfg = true → a = getER s 7 - 6) := by
  subst h
  unfold frameSize
  cases exrValid s.cfg <;> simp only [Bool.false_eq_true, if_false, if_true]
  · exact ⟨BitVec.add_zero _, by bv_omega, nofun⟩
  · exact ⟨by bv_omega, by bv_omega, fun _ => trivial⟩

/-- The two parts in which a frame of advanced mode holds an address. -/
theorem upper_append_lower (v : BitVec 24) : v.extractLsb' 16 8 ++ v.setWidth 16 = v := by
  rw [BitVec.setWidth_eq_extractLsb' (by decide), BitVec.extractLsb'_append_extractLsb'_eq_extractLsb' (by decide)]
  exact BitVec.extractLsb'_eq_self

/-- After an exception taken undisturbed, with the bytes of the frame distinct, RTE leads back: the registers and EXR as before,
control at the return address. -/
theorem TakesException.rte {ret : BitVec 24} {v : Nat} {s t : State} (h : TakesException ret v s.exr s t) (hs : s.Undisturbed)
    (hkeys : (frameKeys s).Nodup) :
    Completes (exec .rte t) fun u =>
      SameRegisters s u ∧ u.ccr = s.ccr ∧ u.exr = s.exr ∧ u.pc = pcValue s.cfg.mode ret ∧ u.mem = t.mem := by
  obtain ⟨any, hbus, -⟩ := h.frame
  rw [(hs.frameStored ret any).beforeCycles] at hbus
  have ht : t.Undisturbed := hbus.undisturbed (hs.frameStored ret any)
  obtain ⟨hlow, hhigh, hexr⟩ := hbus.frameStands (frameStands_frameStored hs hkeys ret any)
  obtain ⟨haddrHigh, haddrLow, haddrExr⟩ := frame_addresses_back s h.sp
  have hread : exrRead t = t := by
    unfold exrRead
    split
    · exact ht.beforeCycle
    · rfl
  obtain ⟨hsp, hothers, hccr, hpc, -, hrest⟩ := returnFromException_spec t
  rw [hread, ht.beforeCycles] at hrest
  rw [hread, h.cfg, haddrHigh, ← read16_high, ht.read16, hhigh] at hccr
  rw [hread, ht.beforeCycle, h.cfg, haddrHigh, haddrLow, ht.read16, ht.read16, hlow, hhigh] at hpc
  refine ⟨_, rfl, fun n => ?registers, ?ccr, ?exr, ?pc, ?mem⟩
  case registers =>
    by_cases hn : n = 7
    · subst hn
      rw [hsp, h.sp, frameSize, frameSize, h.cfg, BitVec.sub_add_cancel]
    · exact (hothers n hn).trans (h.others n hn)
  case ccr =>
    rw [hccr, slice_high _ _ (by decide), BitVec.extractLsb'_eq_self, ← ofByte_eq, Ccr.ofByte_toByte]
  case exr =>
    refine hrest.exr.trans ?_
    simp only [h.cfg]
    split
    case isTrue hx => rw [haddrExr hx, ← read16_high, ht.read16, hexr hx]; exact s.exr.ofByte_toByte
    case isFalse => exact h.exr
  case pc =>
    rw [hpc]
    unfold frameUpper
    cases s.cfg.mode
    · exact pcValue_normal_low ret
    · simp only [slice_low _ _ (show 0 + 8 ≤ 8 by decide), BitVec.extractLsb'_eq_self, upper_append_lower]
  case mem =>
    obtain ⟨changes, hwrites, hmem, -⟩ := returnFromException_logged t
    have hnone : changes = [] := List.append_left_eq_self.mp (hwrites.symm.trans hrest.writes)
    rw [hmem, hnone]
    rfl

/-- Settles O55. -/
theorem trapaThenRteReturns : Obligations.TrapaThenRteReturns := by
  unfold Obligations.TrapaThenRteReturns
  rintro imm s _ hs hkeys ⟨⟩
  exact (takeException_spec (s.pc + 2) (8 + imm.toNat) s.exr s).rte hs hkeys

end Sys2Proof.Machine
end

section
/-! SUPPORT. The machine between instructions: the step that executes an instruction (O43), interrupts (O47), trace (O48), and the
states in which the CPU waits (O50), each by what the CPU undertakes at the boundary (R460, R461, R484). -/

namespace Sys2Proof.Machine

/-! ### What the CPU undertakes, whole -/

/-- With RES and STBY high a deed that is no instruction is done whole: nothing prefetched is in its way. -/
theorem step_of_undertake {s t : State} (hr : s.env.resetAsserted = false) (hs : s.env.standbyAsserted = false)
    (h : undertake (atBoundary s) = withoutWindow t) : step s = .next t := by
  rw [step_proceeds hr hs, h]
  exact conclude_next (not_storesInto_nil _)

/-- A bus request is granted before all else in program execution (R464). -/
theorem undertake_busRequest {s : State} (hp : s.procState = .programExecution) (hb : s.env.busRequest = true) :
    undertake s = withoutWindow { s with procState := .busReleased } := by
  unfold undertake
  simp only [hp, hb, if_true]

/-- A trace that is due comes before interrupts (R467, R474). -/
theorem undertake_trace {s : State} (hp : s.procState = .programExecution) (hb : s.env.busRequest = false)
    (ht : traceDue s = true) : undertake s = withoutWindow (traceSequence s) := by
  unfold undertake
  simp only [hp, hb, ht, Bool.false_eq_true, if_false, if_true]

/-- An accepted request comes before the next instruction (R467, R475). -/
theorem undertake_interrupt {s : State} {req : Request} (hp : s.procState = .programExecution) (hb : s.env.busRequest = false)
    (ht : traceDue s = false) (ha : acceptedRequest s = some req) : undertake s = withoutWindow (interruptSequence req s) := by
  unfold undertake
  simp only [hp, hb, ht, ha, Bool.false_eq_true, if_false]

theorem undertake_hardwareStandby {s : State} (hp : s.procState = .hardwareStandby) : undertake s = withoutWindow s := by
  unfold undertake
  simp only [hp]

theorem undertake_busReleased {s : State} (hp : s.procState = .busReleased) :
    undertake s = withoutWindow (if s.env.busRequest then s else { s with procState := .programExecution }) := by
  unfold undertake
  simp only [hp]

/-- In sleep and software standby the CPU waits (R465, R806). -/
theorem undertake_waiting {s : State} (hp : s.procState = .sleep ∨ s.procState = .softwareStandby) :
    undertake s = withoutWindow (waitForException s) := by
  unfold undertake
  rcases hp with hp | hp <;> simp only [hp]

/-! ### One instruction (O43) -/

/-- The offer that was not accepted is passed, outside the inhibit window (R477, R481). -/
theorem passOffer_eq (s : State) :
    passOffer s = { s with env := { s.env with offers := if s.inhibit then s.env.offers else laterOffers s.env.offers } } := by
  unfold passOffer
  split <;> rfl

theorem passOfferInside_instruction {s : State} (hg : s.cfg.granularity = .instruction) : passOfferInside s = s := by
  rw [passOfferInside, hg]

theorem passOfferInside_busCycle {s : State} (hg : s.cfg.granularity = .busCycle) : passOfferInside s = passOffer s := by
  rw [passOfferInside, hg]

theorem endInstr_instruction {s : State} (hg : s.cfg.granularity = .instruction) (t : State) :
    endInstr s t = { t with env := { t.env with offers := (passOffer s).env.offers } } := by
  rw [endInstr, hg]

theorem endInstr_busCycle {s : State} (hg : s.cfg.granularity = .busCycle) (t : State) : endInstr s t = t := by
  rw [endInstr, hg]

/-- An instruction that completes ends the step where its window was not stored into (R85). -/
theorem step_instruction {s t : State} {i : Instr} (hb : (atBoundary s).Executes) (hstale : (atBoundary s).stale = false)
    (hi : decode (instrBytes (atBoundary s)) = some i) (ht : exec i (beginInstr (atBoundary s)) = .next t)
    (hw : ¬ StoresInto (prefetchWindow i.size (atBoundary s)) t.writes) : step s = .next (endInstr (atBoundary s) t) := by
  rw [step_executes hb, runInstruction_next hstale hi ht]
  rw [← (endInstr_sameBus (atBoundary s) t).writes] at hw
  exact conclude_next hw

/-- A refusal of the instruction is the step's. -/
theorem step_instruction_refused {s : State} {i : Instr} {r : Refusal} (hb : (atBoundary s).Executes)
    (hstale : (atBoundary s).stale = false) (hi : decode (instrBytes (atBoundary s)) = some i)
    (hr : exec i (beginInstr (atBoundary s)) = .refused r) : step s = .refused r := by
  rw [step_executes hb, runInstruction]
  simp only [hstale, hi, hr, Bool.false_eq_true, if_false, conclude]

/-- Settles O43: where the offer is passed, at the end of the instruction or at its beginning, is by the granularity. -/
theorem stepRunsDecodedInstruction : Obligations.StepRunsDecodedInstruction := by
  unfold Obligations.StepRunsDecodedInstruction
  refine fun s => ⟨atBoundary_spec s, fun i hb hstale hi => ⟨fun t ht hw => ?completes,
    fun r hr => step_instruction_refused hb hstale hi hr, ?begins⟩⟩
  case completes =>
    rw [step_instruction hb hstale hi ht hw]
    cases hg : s.cfg.granularity
    · rw [endInstr_instruction (s := atBoundary s) hg, passOffer_eq]
      rfl
    · rw [endInstr_busCycle (s := atBoundary s) hg]
  case begins =>
    unfold beginInstr
    cases hg : s.cfg.granularity
    · rw [passOfferInside_instruction (s := atBoundary s) hg]
      rfl
    · rw [passOfferInside_busCycle (s := atBoundary s) hg, passOffer_eq]
      rfl

/-! ### Interrupts (O47) and trace (O48) -/

/-- `Masked(req)` is what the statements say of it (R479). -/
theorem Masks.maskedRequest_eq {s : State} {req : Request} {b : Bool} (h : Masks s req b) : maskedRequest s req = b := by
  unfold maskedRequest
  rcases h with ⟨hr, hm, h⟩ | ⟨hr, hm, h⟩ | ⟨hr | hm | hm, h⟩
  · simp [hr, hm, defaultMasked, h]
  · simp [hr, hm, defaultMasked, BitVec.le_def, h]
  · simp only [hr, h]
  all_goals cases s.cfg.maskRule <;> simp [hm, defaultMasked, ← h]

/-- What is offered is accepted outside the inhibit window where it is NMI or not masked (R477). -/
theorem acceptedRequest_of_unmasked {s : State} {req : Request} (hi : s.inhibit = false) (ho : offeredRequest s = some req)
    (h : req.nmi = true ∨ Masks s req false) : acceptedRequest s = some req := by
  simp only [acceptedRequest, hi, ho, Bool.false_eq_true, if_false]
  rcases h with h | h
  · simp [h]
  · simp [h.maskedRequest_eq]

theorem acceptedRequest_of_masked {s : State} {req : Request} (ho : offeredRequest s = some req) (hn : req.nmi = false)
    (h : Masks s req true) : acceptedRequest s = none := by
  simp [acceptedRequest, ho, hn, h.maskedRequest_eq]

/-- Settles O47: the offer, accepted at the boundary, leads to its sequence; not accepted, to the instruction at PC. -/
theorem interruptsAreTakenUnlessMasked : Obligations.InterruptsAreTakenUnlessMasked := by
  unfold Obligations.InterruptsAreTakenUnlessMasked
  intro s req rest hp hs hr hb ht ho b
  have hoffered : offeredRequest b = some req := by
    show s.env.offers.head?.join = some req
    rw [ho]
    rfl
  refine ⟨fun hi h => ?taken, fun h => ⟨hp, hs, hr, hb, ht, ?notTaken⟩⟩
  case taken =>
    have ha : acceptedRequest b = some req := acceptedRequest_of_unmasked hi hoffered h
    obtain ⟨henv, hproc, hinhibit, htrace, hstale⟩ := interruptSequence_rest req b
    have htail : b.env.offers.tail = rest := congrArg List.tail ho
    rw [SameEnv, htail] at henv
    exact ⟨_, step_of_undertake hr hs (undertake_interrupt hp hb ht ha), interruptSequence_spec req b, henv, hproc,
      hinhibit.trans hi, htrace, hstale⟩
  case notTaken =>
    rcases h with hi | ⟨hn, hm⟩
    · exact acceptedRequest_of_inhibit (s := b) hi
    · exact acceptedRequest_of_masked hoffered hn hm

/-- EXR is valid in interrupt control modes 2 and 3 (D1). -/
theorem exrValid_of_intm {cfg : Config} (h : cfg.intm = .mode2 ∨ cfg.intm = .mode3) : exrValid cfg = true := by
  rcases h with h | h <;> rw [exrValid, h]

/-- Settles O48: a trace that is due is the first thing in program execution that no input precedes. -/
theorem traceIsTakenAfterTracedInstruction : Obligations.TraceIsTakenAfterTracedInstruction := by
  unfold Obligations.TraceIsTakenAfterTracedInstruction
  intro s hp hs hr hb hm ht hn
  have hdue : traceDue (atBoundary s) = true := by
    show (exrValid s.cfg && s.exr.t && !s.noTrace) = true
    rw [exrValid_of_intm hm, ht, hn]
    rfl
  obtain ⟨henv, hrest⟩ := traceSequence_rest (atBoundary s)
  exact ⟨_, step_of_undertake hr hs (undertake_trace hp hb hdue), traceSequence_spec (atBoundary s), henv, hrest⟩

/-! ### STBY and the states in which the CPU waits (O50) -/

/-- With RES high STBY comes before all else (R460, R467). -/
theorem step_standby {s : State} (hr : s.env.resetAsserted = false) (hs : s.env.standbyAsserted = true) :
    step s = if s.procState = .hardwareStandby then .next (atBoundary s) else cutShort enterHardwareStandby (atBoundary s) := by
  have hb : (atBoundary s).env.resetAsserted = false ∧ (atBoundary s).env.standbyAsserted = true := ⟨hr, hs⟩
  unfold step boundary boundaryDecision
  rw [hb.1, hb.2]
  rfl

/-- Hardware standby costs the registers only (R465): what `LeavesChanges` speaks of stays. -/
theorem LeavesChanges.enterHardwareStandby {done : List MemoryChange} {s u : State} (h : LeavesChanges done s u) :
    LeavesChanges done s (enterHardwareStandby u) := ⟨h.memory, h.acts, h.cfg, h.inputs⟩

/-- STBY inside what the CPU went on to do: as for a reset there, the changes performed by then stand, and one of them in the window
refuses (R520, D13). -/
theorem conclude_abandoned_standby {s : State} {d : Deed} (n : Nat) (hw : s.writes = []) (hd : undertake s = .next d) :
    let r := conclude (fun t => enterHardwareStandby (abandoned n s t)) (.next d)
    ∃ done, CutAfter n d.ends.writes.reverse done ∧ (StoresInto d.window done → r = .refused .storeIntoPrefetch) ∧
      (¬ StoresInto d.window done → Completes r fun u => u.procState = .hardwareStandby ∧ LeavesChanges done s u) := by
  obtain ⟨hcfg, hinputs, -, hlogged⟩ := undertake_keepsInputs hd
  refine ⟨changesUpTo n d.ends.writes.reverse, cutAfter_changesUpTo n _, fun hs => ?_, fun hs => ?_⟩
  · exact conclude_refused ((storesInto_abandoned_iff d.window n s d.ends).mpr hs)
  · exact ⟨_, conclude_next fun hs' => hs ((storesInto_abandoned_iff d.window n s d.ends).mp hs'), rfl,
      (abandoned_leaves n hw hlogged hcfg hinputs).enterHardwareStandby⟩

/-- Nothing to take: waiting passes the offer. -/
theorem waitForException_none {s : State} (ht : traceDue s = false) (ha : acceptedRequest s = none) :
    waitForException s = passOffer s := by
  simp only [waitForException, ht, ha, Bool.false_eq_true, if_false]

theorem waitForException_some {s : State} {req : Request} (ht : traceDue s = false) (ha : acceptedRequest s = some req) :
    waitForException s = interruptSequence req s := by
  simp only [waitForException, ht, ha, Bool.false_eq_true, if_false]

/-- The environment's act at a boundary does not change what is accepted there. -/
theorem acceptedRequest_atBoundary (s : State) : acceptedRequest (atBoundary s) = acceptedRequest s :=
  acceptedRequest_congr rfl rfl rfl rfl rfl

/-- Settles O50: STBY low, at the boundary or inside a deed; STBY high, what each processing state undertakes. -/
theorem waitingStatesWaitForTheirEvent : Obligations.WaitingStatesWaitForTheirEvent := by
  unfold Obligations.WaitingStatesWaitForTheirEvent
  refine fun s hr => ⟨fun hs => ⟨fun hp => ?stays, fun hp => ⟨fun hseen => ?enters, fun n d hg ha hp' hd => ?inside⟩⟩,
    fun hs => ⟨fun hp => ?standby, fun hp => ?released, fun hp hb => ?requested, fun hp ht => ⟨fun ha => ?waits,
      fun req ha => ?wakes⟩⟩⟩
  case stays => rw [step_standby hr hs, if_pos hp]
  case enters =>
    rw [step_standby hr hs, if_neg hp, cutShort_atBoundary (s := atBoundary s) enterHardwareStandby hseen]
    exact ⟨_, rfl, rfl, rfl, rfl, rfl⟩
  case inside =>
    rw [step_standby hr hs, if_neg hp, cutShort_inside (s := atBoundary s) enterHardwareStandby hg ha hp', hd]
    exact conclude_abandoned_standby n rfl hd
  case standby => exact step_of_undertake hr hs (undertake_hardwareStandby hp)
  case released => exact step_of_undertake hr hs (undertake_busReleased hp)
  case requested => exact step_of_undertake hr hs (undertake_busRequest hp hb)
  case waits =>
    have ha : acceptedRequest (atBoundary s) = none := (acceptedRequest_atBoundary s).trans ha
    rw [step_of_undertake hr hs (undertake_waiting hp), waitForException_none (s := atBoundary s) ht ha, passOffer_eq]
    rfl
  case wakes =>
    have ha : acceptedRequest (atBoundary s) = some req := (acceptedRequest_atBoundary s).trans ha
    have hstep := step_of_undertake hr hs (undertake_waiting hp)
    rw [waitForException_some (s := atBoundary s) ht ha] at hstep
    exact ⟨_, hstep, interruptSequence_spec req (atBoundary s), rfl⟩

end Sys2Proof.Machine
end

section
/-! SUPPORT. Every well-formed instruction completes (O54), and words written out from the encoding tables decode to their
instructions (O46). -/

namespace Sys2Proof.Machine

/-- Settles O54: what LDM, STM and TAS test is what makes them well formed, the MAC group has its core, and no other meaning has an
end but a next state. -/
theorem wellFormedInstructionsComplete : Obligations.WellFormedInstructionsComplete := by
  unfold Obligations.WellFormedInstructionsComplete
  intro i s hwf hcpu
  cases i with
  | ldmL2 | ldmL3 | ldmL4 | stmL2 | stmL3 | stmL4 | tasAtERd => exact ⟨_, if_pos hwf⟩
  | macERnIncERmInc | clrmac | ldmacERsMACH | ldmacERsMACL | stmacMACHERd | stmacMACLERd =>
    obtain ⟨t, ht, -⟩ := completes_withMac (P := fun _ => True) (hcpu.resolve_right nofun) trivial
    exact ⟨t, ht⟩
  | _ => exact ⟨_, rfl⟩

/-- Settles O46: each word is the encoding of its instruction, and encodings are read back (O41). -/
theorem decoderReadsSpecWords : Obligations.DecoderReadsSpecWords := by
  unfold Obligations.DecoderReadsSpecWords
  exact ⟨decode_encode (.movLERsERd 2 3) [] rfl, decode_encode (.addBImm8Rd 0x12#8 (.l 3)) [] rfl,
    decode_encode (.orLERsERd 2 1) [] rfl, decode_encode (.sharLBy2ERd 1) [] rfl, decode_encode (.bsetRnAtERd (.h 2) 1) [] rfl,
    decode_encode (.beqD16 0x0100#16) [] rfl, decode_encode (.trapa 3#2) [] rfl, decode_encode .eepmovW [] rfl⟩

end Sys2Proof.Machine
end
